-- ==== Sys2Proof/Word.lean ====
section
/-! DEFINITION. The instruction word the block takes (rules R6, R11). -/

namespace Sys2Proof

/-- The instruction word `w[31] ... w[0]`, bit 0 least significant (rules R6, R11). -/
abbrev Word := BitVec 32

end Sys2Proof
end

