-- ==== Sys2Proof/Config.lean ====
section
/-! DEFINITION. What is fixed for this block (rule R5).  The block leaves no value open for any input word
(`93_implementation_defined.md`, opening paragraph), so there is no free value here; the one parameter of the spec,
`OpEnc` (decision D3), is an argument of `Machine.Instruction.ports`. -/

namespace Sys2Proof.Config

/-- The instruction word width (rules R5, R40): the one length the block decodes. -/
def wordBits : Nat := 32

end Sys2Proof.Config
end

