-- ==== Sys2Proof/Syntax.lean ====
section
/-! DEFINITION. The instructions: one constructor per row of spec/opcode_table.json.  A constructor holds every bit of the
word that its row does not fix, arranged by the row's format (rule R41), those the block delivers to no output among them
(rule R57), so that a word and its instruction determine each other.  The names are the table's (decision D10). -/

namespace Sys2Proof

/-- An instruction word by its row of the opcode table. -/
inductive Instr where
  /-- LUI, opcode 0x37, format U (rule R90). -/
  | lui (rd : BitVec 5) (imm : BitVec 20)
  /-- AUIPC, opcode 0x17, format U (rule R91). -/
  | auipc (rd : BitVec 5) (imm : BitVec 20)
  /-- JAL, opcode 0x6f, format J (rule R92); `offset` is the 21-bit byte offset, bit 0 clear. -/
  | jal (rd : BitVec 5) (offset : BitVec 21)
  /-- JALR, opcode 0x67, format I (rule R93); `imm` is carried by the word and not delivered. -/
  | jalr (rd rs1 : BitVec 5) (funct3 : BitVec 3) (imm : BitVec 12)
  /-- BRANCH, opcode 0x63, format B (rule R94); `offset` is the 13-bit byte offset, bit 0 clear. -/
  | branch (rs1 rs2 : BitVec 5) (funct3 : BitVec 3) (offset : BitVec 13)
  /-- LOAD, opcode 0x03, format I (rule R100). -/
  | load (rd rs1 : BitVec 5) (funct3 : BitVec 3) (imm : BitVec 12)
  /-- STORE, opcode 0x23, format S (rule R101). -/
  | store (rs1 rs2 : BitVec 5) (funct3 : BitVec 3) (imm : BitVec 12)
  /-- OP_IMM_F0, opcode 0x13 with funct3 = 0, format I (rule R105). -/
  | opImmF0 (rd rs1 : BitVec 5) (imm : BitVec 12)
  /-- OP_IMM_F1, opcode 0x13 with funct3 = 1, format I (rule R105). -/
  | opImmF1 (rd rs1 : BitVec 5) (imm : BitVec 12)
  /-- OP_IMM_F2, opcode 0x13 with funct3 = 2, format I (rule R105). -/
  | opImmF2 (rd rs1 : BitVec 5) (imm : BitVec 12)
  /-- OP_IMM_F3, opcode 0x13 with funct3 = 3, format I (rule R105). -/
  | opImmF3 (rd rs1 : BitVec 5) (imm : BitVec 12)
  /-- OP_IMM_F4, opcode 0x13 with funct3 = 4, format I (rule R105). -/
  | opImmF4 (rd rs1 : BitVec 5) (imm : BitVec 12)
  /-- OP_IMM_F5, opcode 0x13 with funct3 = 5, format I (rule R105). -/
  | opImmF5 (rd rs1 : BitVec 5) (imm : BitVec 12)
  /-- OP_IMM_F6, opcode 0x13 with funct3 = 6, format I (rule R105). -/
  | opImmF6 (rd rs1 : BitVec 5) (imm : BitVec 12)
  /-- OP_IMM_F7, opcode 0x13 with funct3 = 7, format I (rule R105). -/
  | opImmF7 (rd rs1 : BitVec 5) (imm : BitVec 12)
  /-- OP, opcode 0x33, format R (rule R106); `top` is word bit 31, which is not extracted (rule R65). -/
  | op (rd rs1 rs2 : BitVec 5) (funct3 : BitVec 3) (funct7 : BitVec 6) (top : BitVec 1)
  /-- MISC_MEM, opcode 0x0f, format I (rule R115); `dest` is word bits 11 to 7, which the handler discards. -/
  | miscMem (dest rs1 : BitVec 5) (funct3 : BitVec 3) (imm : BitVec 12)
  /-- SYSTEM, opcode 0x73, format I (rule R116); `dest` is word bits 11 to 7, which the handler discards. -/
  | system (dest rs1 : BitVec 5) (funct3 : BitVec 3) (imm : BitVec 12)
  /-- ILLEGAL_00: the unrecognised opcode 0x00 (rule R117); `rest` is word bits 31 to 7. -/
  | illegal00 (rest : BitVec 25)
  /-- ILLEGAL_01: the unrecognised opcode 0x01 (rule R117); `rest` is word bits 31 to 7. -/
  | illegal01 (rest : BitVec 25)
  /-- ILLEGAL_02: the unrecognised opcode 0x02 (rule R117); `rest` is word bits 31 to 7. -/
  | illegal02 (rest : BitVec 25)
  /-- ILLEGAL_04: the unrecognised opcode 0x04 (rule R117); `rest` is word bits 31 to 7. -/
  | illegal04 (rest : BitVec 25)
  /-- ILLEGAL_05: the unrecognised opcode 0x05 (rule R117); `rest` is word bits 31 to 7. -/
  | illegal05 (rest : BitVec 25)
  /-- ILLEGAL_06: the unrecognised opcode 0x06 (rule R117); `rest` is word bits 31 to 7. -/
  | illegal06 (rest : BitVec 25)
  /-- ILLEGAL_07: the unrecognised opcode 0x07 (rule R117); `rest` is word bits 31 to 7. -/
  | illegal07 (rest : BitVec 25)
  /-- ILLEGAL_08: the unrecognised opcode 0x08 (rule R117); `rest` is word bits 31 to 7. -/
  | illegal08 (rest : BitVec 25)
  /-- ILLEGAL_09: the unrecognised opcode 0x09 (rule R117); `rest` is word bits 31 to 7. -/
  | illegal09 (rest : BitVec 25)
  /-- ILLEGAL_0A: the unrecognised opcode 0x0a (rule R117); `rest` is word bits 31 to 7. -/
  | illegal0A (rest : BitVec 25)
  /-- ILLEGAL_0B: the unrecognised opcode 0x0b (rule R117); `rest` is word bits 31 to 7. -/
  | illegal0B (rest : BitVec 25)
  /-- ILLEGAL_0C: the unrecognised opcode 0x0c (rule R117); `rest` is word bits 31 to 7. -/
  | illegal0C (rest : BitVec 25)
  /-- ILLEGAL_0D: the unrecognised opcode 0x0d (rule R117); `rest` is word bits 31 to 7. -/
  | illegal0D (rest : BitVec 25)
  /-- ILLEGAL_0E: the unrecognised opcode 0x0e (rule R117); `rest` is word bits 31 to 7. -/
  | illegal0E (rest : BitVec 25)
  /-- ILLEGAL_10: the unrecognised opcode 0x10 (rule R117); `rest` is word bits 31 to 7. -/
  | illegal10 (rest : BitVec 25)
  /-- ILLEGAL_11: the unrecognised opcode 0x11 (rule R117); `rest` is word bits 31 to 7. -/
  | illegal11 (rest : BitVec 25)
  /-- ILLEGAL_12: the unrecognised opcode 0x12 (rule R117); `rest` is word bits 31 to 7. -/
  | illegal12 (rest : BitVec 25)
  /-- ILLEGAL_14: the unrecognised opcode 0x14 (rule R117); `rest` is word bits 31 to 7. -/
  | illegal14 (rest : BitVec 25)
  /-- ILLEGAL_15: the unrecognised opcode 0x15 (rule R117); `rest` is word bits 31 to 7. -/
  | illegal15 (rest : BitVec 25)
  /-- ILLEGAL_16: the unrecognised opcode 0x16 (rule R117); `rest` is word bits 31 to 7. -/
  | illegal16 (rest : BitVec 25)
  /-- ILLEGAL_18: the unrecognised opcode 0x18 (rule R117); `rest` is word bits 31 to 7. -/
  | illegal18 (rest : BitVec 25)
  /-- ILLEGAL_19: the unrecognised opcode 0x19 (rule R117); `rest` is word bits 31 to 7. -/
  | illegal19 (rest : BitVec 25)
  /-- ILLEGAL_1A: the unrecognised opcode 0x1a (rule R117); `rest` is word bits 31 to 7. -/
  | illegal1A (rest : BitVec 25)
  /-- ILLEGAL_1B: the unrecognised opcode 0x1b (rule R117); `rest` is word bits 31 to 7. -/
  | illegal1B (rest : BitVec 25)
  /-- ILLEGAL_1C: the unrecognised opcode 0x1c (rule R117); `rest` is word bits 31 to 7. -/
  | illegal1C (rest : BitVec 25)
  /-- ILLEGAL_1D: the unrecognised opcode 0x1d (rule R117); `rest` is word bits 31 to 7. -/
  | illegal1D (rest : BitVec 25)
  /-- ILLEGAL_1E: the unrecognised opcode 0x1e (rule R117); `rest` is word bits 31 to 7. -/
  | illegal1E (rest : BitVec 25)
  /-- ILLEGAL_1F: the unrecognised opcode 0x1f (rule R117); `rest` is word bits 31 to 7. -/
  | illegal1F (rest : BitVec 25)
  /-- ILLEGAL_20: the unrecognised opcode 0x20 (rule R117); `rest` is word bits 31 to 7. -/
  | illegal20 (rest : BitVec 25)
  /-- ILLEGAL_21: the unrecognised opcode 0x21 (rule R117); `rest` is word bits 31 to 7. -/
  | illegal21 (rest : BitVec 25)
  /-- ILLEGAL_22: the unrecognised opcode 0x22 (rule R117); `rest` is word bits 31 to 7. -/
  | illegal22 (rest : BitVec 25)
  /-- ILLEGAL_24: the unrecognised opcode 0x24 (rule R117); `rest` is word bits 31 to 7. -/
  | illegal24 (rest : BitVec 25)
  /-- ILLEGAL_25: the unrecognised opcode 0x25 (rule R117); `rest` is word bits 31 to 7. -/
  | illegal25 (rest : BitVec 25)
  /-- ILLEGAL_26: the unrecognised opcode 0x26 (rule R117); `rest` is word bits 31 to 7. -/
  | illegal26 (rest : BitVec 25)
  /-- ILLEGAL_27: the unrecognised opcode 0x27 (rule R117); `rest` is word bits 31 to 7. -/
  | illegal27 (rest : BitVec 25)
  /-- ILLEGAL_28: the unrecognised opcode 0x28 (rule R117); `rest` is word bits 31 to 7. -/
  | illegal28 (rest : BitVec 25)
  /-- ILLEGAL_29: the unrecognised opcode 0x29 (rule R117); `rest` is word bits 31 to 7. -/
  | illegal29 (rest : BitVec 25)
  /-- ILLEGAL_2A: the unrecognised opcode 0x2a (rule R117); `rest` is word bits 31 to 7. -/
  | illegal2A (rest : BitVec 25)
  /-- ILLEGAL_2B: the unrecognised opcode 0x2b (rule R117); `rest` is word bits 31 to 7. -/
  | illegal2B (rest : BitVec 25)
  /-- ILLEGAL_2C: the unrecognised opcode 0x2c (rule R117); `rest` is word bits 31 to 7. -/
  | illegal2C (rest : BitVec 25)
  /-- ILLEGAL_2D: the unrecognised opcode 0x2d (rule R117); `rest` is word bits 31 to 7. -/
  | illegal2D (rest : BitVec 25)
  /-- ILLEGAL_2E: the unrecognised opcode 0x2e (rule R117); `rest` is word bits 31 to 7. -/
  | illegal2E (rest : BitVec 25)
  /-- ILLEGAL_2F: the unrecognised opcode 0x2f (rule R117); `rest` is word bits 31 to 7. -/
  | illegal2F (rest : BitVec 25)
  /-- ILLEGAL_30: the unrecognised opcode 0x30 (rule R117); `rest` is word bits 31 to 7. -/
  | illegal30 (rest : BitVec 25)
  /-- ILLEGAL_31: the unrecognised opcode 0x31 (rule R117); `rest` is word bits 31 to 7. -/
  | illegal31 (rest : BitVec 25)
  /-- ILLEGAL_32: the unrecognised opcode 0x32 (rule R117); `rest` is word bits 31 to 7. -/
  | illegal32 (rest : BitVec 25)
  /-- ILLEGAL_34: the unrecognised opcode 0x34 (rule R117); `rest` is word bits 31 to 7. -/
  | illegal34 (rest : BitVec 25)
  /-- ILLEGAL_35: the unrecognised opcode 0x35 (rule R117); `rest` is word bits 31 to 7. -/
  | illegal35 (rest : BitVec 25)
  /-- ILLEGAL_36: the unrecognised opcode 0x36 (rule R117); `rest` is word bits 31 to 7. -/
  | illegal36 (rest : BitVec 25)
  /-- ILLEGAL_38: the unrecognised opcode 0x38 (rule R117); `rest` is word bits 31 to 7. -/
  | illegal38 (rest : BitVec 25)
  /-- ILLEGAL_39: the unrecognised opcode 0x39 (rule R117); `rest` is word bits 31 to 7. -/
  | illegal39 (rest : BitVec 25)
  /-- ILLEGAL_3A: the unrecognised opcode 0x3a (rule R117); `rest` is word bits 31 to 7. -/
  | illegal3A (rest : BitVec 25)
  /-- ILLEGAL_3B: the unrecognised opcode 0x3b (rule R117); `rest` is word bits 31 to 7. -/
  | illegal3B (rest : BitVec 25)
  /-- ILLEGAL_3C: the unrecognised opcode 0x3c (rule R117); `rest` is word bits 31 to 7. -/
  | illegal3C (rest : BitVec 25)
  /-- ILLEGAL_3D: the unrecognised opcode 0x3d (rule R117); `rest` is word bits 31 to 7. -/
  | illegal3D (rest : BitVec 25)
  /-- ILLEGAL_3E: the unrecognised opcode 0x3e (rule R117); `rest` is word bits 31 to 7. -/
  | illegal3E (rest : BitVec 25)
  /-- ILLEGAL_3F: the unrecognised opcode 0x3f (rule R117); `rest` is word bits 31 to 7. -/
  | illegal3F (rest : BitVec 25)
  /-- ILLEGAL_40: the unrecognised opcode 0x40 (rule R117); `rest` is word bits 31 to 7. -/
  | illegal40 (rest : BitVec 25)
  /-- ILLEGAL_41: the unrecognised opcode 0x41 (rule R117); `rest` is word bits 31 to 7. -/
  | illegal41 (rest : BitVec 25)
  /-- ILLEGAL_42: the unrecognised opcode 0x42 (rule R117); `rest` is word bits 31 to 7. -/
  | illegal42 (rest : BitVec 25)
  /-- ILLEGAL_43: the unrecognised opcode 0x43 (rule R117); `rest` is word bits 31 to 7. -/
  | illegal43 (rest : BitVec 25)
  /-- ILLEGAL_44: the unrecognised opcode 0x44 (rule R117); `rest` is word bits 31 to 7. -/
  | illegal44 (rest : BitVec 25)
  /-- ILLEGAL_45: the unrecognised opcode 0x45 (rule R117); `rest` is word bits 31 to 7. -/
  | illegal45 (rest : BitVec 25)
  /-- ILLEGAL_46: the unrecognised opcode 0x46 (rule R117); `rest` is word bits 31 to 7. -/
  | illegal46 (rest : BitVec 25)
  /-- ILLEGAL_47: the unrecognised opcode 0x47 (rule R117); `rest` is word bits 31 to 7. -/
  | illegal47 (rest : BitVec 25)
  /-- ILLEGAL_48: the unrecognised opcode 0x48 (rule R117); `rest` is word bits 31 to 7. -/
  | illegal48 (rest : BitVec 25)
  /-- ILLEGAL_49: the unrecognised opcode 0x49 (rule R117); `rest` is word bits 31 to 7. -/
  | illegal49 (rest : BitVec 25)
  /-- ILLEGAL_4A: the unrecognised opcode 0x4a (rule R117); `rest` is word bits 31 to 7. -/
  | illegal4A (rest : BitVec 25)
  /-- ILLEGAL_4B: the unrecognised opcode 0x4b (rule R117); `rest` is word bits 31 to 7. -/
  | illegal4B (rest : BitVec 25)
  /-- ILLEGAL_4C: the unrecognised opcode 0x4c (rule R117); `rest` is word bits 31 to 7. -/
  | illegal4C (rest : BitVec 25)
  /-- ILLEGAL_4D: the unrecognised opcode 0x4d (rule R117); `rest` is word bits 31 to 7. -/
  | illegal4D (rest : BitVec 25)
  /-- ILLEGAL_4E: the unrecognised opcode 0x4e (rule R117); `rest` is word bits 31 to 7. -/
  | illegal4E (rest : BitVec 25)
  /-- ILLEGAL_4F: the unrecognised opcode 0x4f (rule R117); `rest` is word bits 31 to 7. -/
  | illegal4F (rest : BitVec 25)
  /-- ILLEGAL_50: the unrecognised opcode 0x50 (rule R117); `rest` is word bits 31 to 7. -/
  | illegal50 (rest : BitVec 25)
  /-- ILLEGAL_51: the unrecognised opcode 0x51 (rule R117); `rest` is word bits 31 to 7. -/
  | illegal51 (rest : BitVec 25)
  /-- ILLEGAL_52: the unrecognised opcode 0x52 (rule R117); `rest` is word bits 31 to 7. -/
  | illegal52 (rest : BitVec 25)
  /-- ILLEGAL_53: the unrecognised opcode 0x53 (rule R117); `rest` is word bits 31 to 7. -/
  | illegal53 (rest : BitVec 25)
  /-- ILLEGAL_54: the unrecognised opcode 0x54 (rule R117); `rest` is word bits 31 to 7. -/
  | illegal54 (rest : BitVec 25)
  /-- ILLEGAL_55: the unrecognised opcode 0x55 (rule R117); `rest` is word bits 31 to 7. -/
  | illegal55 (rest : BitVec 25)
  /-- ILLEGAL_56: the unrecognised opcode 0x56 (rule R117); `rest` is word bits 31 to 7. -/
  | illegal56 (rest : BitVec 25)
  /-- ILLEGAL_57: the unrecognised opcode 0x57 (rule R117); `rest` is word bits 31 to 7. -/
  | illegal57 (rest : BitVec 25)
  /-- ILLEGAL_58: the unrecognised opcode 0x58 (rule R117); `rest` is word bits 31 to 7. -/
  | illegal58 (rest : BitVec 25)
  /-- ILLEGAL_59: the unrecognised opcode 0x59 (rule R117); `rest` is word bits 31 to 7. -/
  | illegal59 (rest : BitVec 25)
  /-- ILLEGAL_5A: the unrecognised opcode 0x5a (rule R117); `rest` is word bits 31 to 7. -/
  | illegal5A (rest : BitVec 25)
  /-- ILLEGAL_5B: the unrecognised opcode 0x5b (rule R117); `rest` is word bits 31 to 7. -/
  | illegal5B (rest : BitVec 25)
  /-- ILLEGAL_5C: the unrecognised opcode 0x5c (rule R117); `rest` is word bits 31 to 7. -/
  | illegal5C (rest : BitVec 25)
  /-- ILLEGAL_5D: the unrecognised opcode 0x5d (rule R117); `rest` is word bits 31 to 7. -/
  | illegal5D (rest : BitVec 25)
  /-- ILLEGAL_5E: the unrecognised opcode 0x5e (rule R117); `rest` is word bits 31 to 7. -/
  | illegal5E (rest : BitVec 25)
  /-- ILLEGAL_5F: the unrecognised opcode 0x5f (rule R117); `rest` is word bits 31 to 7. -/
  | illegal5F (rest : BitVec 25)
  /-- ILLEGAL_60: the unrecognised opcode 0x60 (rule R117); `rest` is word bits 31 to 7. -/
  | illegal60 (rest : BitVec 25)
  /-- ILLEGAL_61: the unrecognised opcode 0x61 (rule R117); `rest` is word bits 31 to 7. -/
  | illegal61 (rest : BitVec 25)
  /-- ILLEGAL_62: the unrecognised opcode 0x62 (rule R117); `rest` is word bits 31 to 7. -/
  | illegal62 (rest : BitVec 25)
  /-- ILLEGAL_64: the unrecognised opcode 0x64 (rule R117); `rest` is word bits 31 to 7. -/
  | illegal64 (rest : BitVec 25)
  /-- ILLEGAL_65: the unrecognised opcode 0x65 (rule R117); `rest` is word bits 31 to 7. -/
  | illegal65 (rest : BitVec 25)
  /-- ILLEGAL_66: the unrecognised opcode 0x66 (rule R117); `rest` is word bits 31 to 7. -/
  | illegal66 (rest : BitVec 25)
  /-- ILLEGAL_68: the unrecognised opcode 0x68 (rule R117); `rest` is word bits 31 to 7. -/
  | illegal68 (rest : BitVec 25)
  /-- ILLEGAL_69: the unrecognised opcode 0x69 (rule R117); `rest` is word bits 31 to 7. -/
  | illegal69 (rest : BitVec 25)
  /-- ILLEGAL_6A: the unrecognised opcode 0x6a (rule R117); `rest` is word bits 31 to 7. -/
  | illegal6A (rest : BitVec 25)
  /-- ILLEGAL_6B: the unrecognised opcode 0x6b (rule R117); `rest` is word bits 31 to 7. -/
  | illegal6B (rest : BitVec 25)
  /-- ILLEGAL_6C: the unrecognised opcode 0x6c (rule R117); `rest` is word bits 31 to 7. -/
  | illegal6C (rest : BitVec 25)
  /-- ILLEGAL_6D: the unrecognised opcode 0x6d (rule R117); `rest` is word bits 31 to 7. -/
  | illegal6D (rest : BitVec 25)
  /-- ILLEGAL_6E: the unrecognised opcode 0x6e (rule R117); `rest` is word bits 31 to 7. -/
  | illegal6E (rest : BitVec 25)
  /-- ILLEGAL_70: the unrecognised opcode 0x70 (rule R117); `rest` is word bits 31 to 7. -/
  | illegal70 (rest : BitVec 25)
  /-- ILLEGAL_71: the unrecognised opcode 0x71 (rule R117); `rest` is word bits 31 to 7. -/
  | illegal71 (rest : BitVec 25)
  /-- ILLEGAL_72: the unrecognised opcode 0x72 (rule R117); `rest` is word bits 31 to 7. -/
  | illegal72 (rest : BitVec 25)
  /-- ILLEGAL_74: the unrecognised opcode 0x74 (rule R117); `rest` is word bits 31 to 7. -/
  | illegal74 (rest : BitVec 25)
  /-- ILLEGAL_75: the unrecognised opcode 0x75 (rule R117); `rest` is word bits 31 to 7. -/
  | illegal75 (rest : BitVec 25)
  /-- ILLEGAL_76: the unrecognised opcode 0x76 (rule R117); `rest` is word bits 31 to 7. -/
  | illegal76 (rest : BitVec 25)
  /-- ILLEGAL_77: the unrecognised opcode 0x77 (rule R117); `rest` is word bits 31 to 7. -/
  | illegal77 (rest : BitVec 25)
  /-- ILLEGAL_78: the unrecognised opcode 0x78 (rule R117); `rest` is word bits 31 to 7. -/
  | illegal78 (rest : BitVec 25)
  /-- ILLEGAL_79: the unrecognised opcode 0x79 (rule R117); `rest` is word bits 31 to 7. -/
  | illegal79 (rest : BitVec 25)
  /-- ILLEGAL_7A: the unrecognised opcode 0x7a (rule R117); `rest` is word bits 31 to 7. -/
  | illegal7A (rest : BitVec 25)
  /-- ILLEGAL_7B: the unrecognised opcode 0x7b (rule R117); `rest` is word bits 31 to 7. -/
  | illegal7B (rest : BitVec 25)
  /-- ILLEGAL_7C: the unrecognised opcode 0x7c (rule R117); `rest` is word bits 31 to 7. -/
  | illegal7C (rest : BitVec 25)
  /-- ILLEGAL_7D: the unrecognised opcode 0x7d (rule R117); `rest` is word bits 31 to 7. -/
  | illegal7D (rest : BitVec 25)
  /-- ILLEGAL_7E: the unrecognised opcode 0x7e (rule R117); `rest` is word bits 31 to 7. -/
  | illegal7E (rest : BitVec 25)
  /-- ILLEGAL_7F: the unrecognised opcode 0x7f (rule R117); `rest` is word bits 31 to 7. -/
  | illegal7F (rest : BitVec 25)
  deriving DecidableEq, Repr

end Sys2Proof
end

