-- ==== Sys2Proof/WellFormed.lean ====
section
/-! DEFINITION. Which terms of `Instr` stand for a word.  Every field has its exact width, and the handlers accept every value of
it (rule R54), so the one thing left to check is that a branch or jump offset is even: its bit 0 is always zero and has no bit
in the word (rules R75, R77, R81). -/

namespace Sys2Proof

/-- The instruction stands for a word: an offset's bit 0 is clear. -/
def Instr.wellFormed : Instr → Bool
  | .jal _ offset => !offset.getLsbD 0
  | .branch _ _ _ offset => !offset.getLsbD 0
  | .lui _ _ => true
  | .auipc _ _ => true
  | .jalr _ _ _ _ => true
  | .load _ _ _ _ => true
  | .store _ _ _ _ => true
  | .opImmF0 _ _ _ => true
  | .opImmF1 _ _ _ => true
  | .opImmF2 _ _ _ => true
  | .opImmF3 _ _ _ => true
  | .opImmF4 _ _ _ => true
  | .opImmF5 _ _ _ => true
  | .opImmF6 _ _ _ => true
  | .opImmF7 _ _ _ => true
  | .op _ _ _ _ _ _ => true
  | .miscMem _ _ _ _ => true
  | .system _ _ _ _ => true
  | .illegal00 _ => true
  | .illegal01 _ => true
  | .illegal02 _ => true
  | .illegal04 _ => true
  | .illegal05 _ => true
  | .illegal06 _ => true
  | .illegal07 _ => true
  | .illegal08 _ => true
  | .illegal09 _ => true
  | .illegal0A _ => true
  | .illegal0B _ => true
  | .illegal0C _ => true
  | .illegal0D _ => true
  | .illegal0E _ => true
  | .illegal10 _ => true
  | .illegal11 _ => true
  | .illegal12 _ => true
  | .illegal14 _ => true
  | .illegal15 _ => true
  | .illegal16 _ => true
  | .illegal18 _ => true
  | .illegal19 _ => true
  | .illegal1A _ => true
  | .illegal1B _ => true
  | .illegal1C _ => true
  | .illegal1D _ => true
  | .illegal1E _ => true
  | .illegal1F _ => true
  | .illegal20 _ => true
  | .illegal21 _ => true
  | .illegal22 _ => true
  | .illegal24 _ => true
  | .illegal25 _ => true
  | .illegal26 _ => true
  | .illegal27 _ => true
  | .illegal28 _ => true
  | .illegal29 _ => true
  | .illegal2A _ => true
  | .illegal2B _ => true
  | .illegal2C _ => true
  | .illegal2D _ => true
  | .illegal2E _ => true
  | .illegal2F _ => true
  | .illegal30 _ => true
  | .illegal31 _ => true
  | .illegal32 _ => true
  | .illegal34 _ => true
  | .illegal35 _ => true
  | .illegal36 _ => true
  | .illegal38 _ => true
  | .illegal39 _ => true
  | .illegal3A _ => true
  | .illegal3B _ => true
  | .illegal3C _ => true
  | .illegal3D _ => true
  | .illegal3E _ => true
  | .illegal3F _ => true
  | .illegal40 _ => true
  | .illegal41 _ => true
  | .illegal42 _ => true
  | .illegal43 _ => true
  | .illegal44 _ => true
  | .illegal45 _ => true
  | .illegal46 _ => true
  | .illegal47 _ => true
  | .illegal48 _ => true
  | .illegal49 _ => true
  | .illegal4A _ => true
  | .illegal4B _ => true
  | .illegal4C _ => true
  | .illegal4D _ => true
  | .illegal4E _ => true
  | .illegal4F _ => true
  | .illegal50 _ => true
  | .illegal51 _ => true
  | .illegal52 _ => true
  | .illegal53 _ => true
  | .illegal54 _ => true
  | .illegal55 _ => true
  | .illegal56 _ => true
  | .illegal57 _ => true
  | .illegal58 _ => true
  | .illegal59 _ => true
  | .illegal5A _ => true
  | .illegal5B _ => true
  | .illegal5C _ => true
  | .illegal5D _ => true
  | .illegal5E _ => true
  | .illegal5F _ => true
  | .illegal60 _ => true
  | .illegal61 _ => true
  | .illegal62 _ => true
  | .illegal64 _ => true
  | .illegal65 _ => true
  | .illegal66 _ => true
  | .illegal68 _ => true
  | .illegal69 _ => true
  | .illegal6A _ => true
  | .illegal6B _ => true
  | .illegal6C _ => true
  | .illegal6D _ => true
  | .illegal6E _ => true
  | .illegal70 _ => true
  | .illegal71 _ => true
  | .illegal72 _ => true
  | .illegal74 _ => true
  | .illegal75 _ => true
  | .illegal76 _ => true
  | .illegal77 _ => true
  | .illegal78 _ => true
  | .illegal79 _ => true
  | .illegal7A _ => true
  | .illegal7B _ => true
  | .illegal7C _ => true
  | .illegal7D _ => true
  | .illegal7E _ => true
  | .illegal7F _ => true

end Sys2Proof
end

