-- ==== Sys2Proof/Decode.lean ====
section
/-! DEFINITION. The field extractor (rules R60 to R66), the reading of a word as a row of the opcode table (rules R41, R50), and
the encoder written from the same format tables (rule R41).  `decodeInstr` is total on words (rule R2). -/

namespace Sys2Proof

/-! ### The field extractor -/

/-- `f_opcode = w[6:0]` (rule R60). -/
def fOpcode (w : Word) : BitVec 7 := w.extractLsb' 0 7
/-- `f_rd = w[11:7]` (rule R61). -/
def fRd (w : Word) : BitVec 5 := w.extractLsb' 7 5
/-- `f_funct3 = w[14:12]` (rule R62). -/
def fFunct3 (w : Word) : BitVec 3 := w.extractLsb' 12 3
/-- `f_rs1 = w[19:15]` (rule R63). -/
def fRs1 (w : Word) : BitVec 5 := w.extractLsb' 15 5
/-- `f_rs2 = w[24:20]` (rule R64). -/
def fRs2 (w : Word) : BitVec 5 := w.extractLsb' 20 5
/-- `f_funct7 = w[30:25]`, six bits: word bit 31 is not part of it (rule R65, conflict C1). -/
def fFunct7 (w : Word) : BitVec 6 := w.extractLsb' 25 6

/-! ### Operands by format (rule R41) -/

/-- Word bit 31, which no raw field holds (rule R66). -/
def topBit (w : Word) : BitVec 1 := w.extractLsb' 31 1
/-- Everything above the opcode. -/
def aboveOpcode (w : Word) : BitVec 25 := w.extractLsb' 7 25
/-- I format: `imm[11:0] = w[31:20]`. -/
def immFieldI (w : Word) : BitVec 12 := w.extractLsb' 20 12
/-- U format: `imm[31:12] = w[31:12]`. -/
def immFieldU (w : Word) : BitVec 20 := w.extractLsb' 12 20
/-- S format: `imm[11:5] = w[31:25]`, `imm[4:0] = w[11:7]`. -/
def immFieldS (w : Word) : BitVec 12 :=
  (w.extractLsb' 25 7).setWidth 12 <<< 5 ||| (w.extractLsb' 7 5).setWidth 12
/-- B format: `imm[12] = w[31]`, `imm[11] = w[7]`, `imm[10:5] = w[30:25]`, `imm[4:1] = w[11:8]`, bit 0 zero. -/
def offsetB (w : Word) : BitVec 13 :=
  (w.extractLsb' 31 1).setWidth 13 <<< 12 ||| (w.extractLsb' 7 1).setWidth 13 <<< 11 |||
    (w.extractLsb' 25 6).setWidth 13 <<< 5 ||| (w.extractLsb' 8 4).setWidth 13 <<< 1
/-- J format: `imm[20] = w[31]`, `imm[19:12] = w[19:12]`, `imm[11] = w[20]`, `imm[10:1] = w[30:21]`, bit 0 zero. -/
def offsetJ (w : Word) : BitVec 21 :=
  (w.extractLsb' 31 1).setWidth 21 <<< 20 ||| (w.extractLsb' 12 8).setWidth 21 <<< 12 |||
    (w.extractLsb' 20 1).setWidth 21 <<< 11 ||| (w.extractLsb' 21 10).setWidth 21 <<< 1

/-! ### One decoder per recognised opcode -/

def decodeLui (w : Word) : Instr := .lui (fRd w) (immFieldU w)
def decodeAuipc (w : Word) : Instr := .auipc (fRd w) (immFieldU w)
def decodeJal (w : Word) : Instr := .jal (fRd w) (offsetJ w)
def decodeJalr (w : Word) : Instr := .jalr (fRd w) (fRs1 w) (fFunct3 w) (immFieldI w)
def decodeBranch (w : Word) : Instr := .branch (fRs1 w) (fRs2 w) (fFunct3 w) (offsetB w)
def decodeLoad (w : Word) : Instr := .load (fRd w) (fRs1 w) (fFunct3 w) (immFieldI w)
def decodeStore (w : Word) : Instr := .store (fRs1 w) (fRs2 w) (fFunct3 w) (immFieldS w)
def decodeOp (w : Word) : Instr :=
  .op (fRd w) (fRs1 w) (fRs2 w) (fFunct3 w) (fFunct7 w) (topBit w)
def decodeMiscMem (w : Word) : Instr := .miscMem (fRd w) (fRs1 w) (fFunct3 w) (immFieldI w)
def decodeSystem (w : Word) : Instr := .system (fRd w) (fRs1 w) (fFunct3 w) (immFieldI w)

/-- The rows of opcode 0x13, by funct3 (the table's split, decision D10). -/
def opImmRows : List (BitVec 5 → BitVec 5 → BitVec 12 → Instr) :=
  [.opImmF0, .opImmF1, .opImmF2, .opImmF3, .opImmF4, .opImmF5, .opImmF6, .opImmF7]

theorem opImmRows_length : opImmRows.length = 8 := rfl

/-- The row of opcode 0x13 that a funct3 selects. -/
def opImmRow (funct3 : BitVec 3) : BitVec 5 → BitVec 5 → BitVec 12 → Instr :=
  opImmRows[funct3.toNat]'(by rw [opImmRows_length]; exact funct3.isLt)

def decodeOpImm (w : Word) : Instr := opImmRow (fFunct3 w) (fRd w) (fRs1 w) (immFieldI w)

/-- The word of an unrecognised opcode: the row's constructor over the other 25 bits. -/
def ill (row : BitVec 25 → Instr) (w : Word) : Instr := row (aboveOpcode w)

/-! ### The opcode table, one entry per value of `w[6:0]` (rule R50) -/

/-- Opcodes 0x00 to 0x0f. -/
def opcodeRows0 : List (Word → Instr) :=
  [ill .illegal00, ill .illegal01, ill .illegal02, decodeLoad,
   ill .illegal04, ill .illegal05, ill .illegal06, ill .illegal07,
   ill .illegal08, ill .illegal09, ill .illegal0A, ill .illegal0B,
   ill .illegal0C, ill .illegal0D, ill .illegal0E, decodeMiscMem]
/-- Opcodes 0x10 to 0x1f. -/
def opcodeRows1 : List (Word → Instr) :=
  [ill .illegal10, ill .illegal11, ill .illegal12, decodeOpImm,
   ill .illegal14, ill .illegal15, ill .illegal16, decodeAuipc,
   ill .illegal18, ill .illegal19, ill .illegal1A, ill .illegal1B,
   ill .illegal1C, ill .illegal1D, ill .illegal1E, ill .illegal1F]
/-- Opcodes 0x20 to 0x2f. -/
def opcodeRows2 : List (Word → Instr) :=
  [ill .illegal20, ill .illegal21, ill .illegal22, decodeStore,
   ill .illegal24, ill .illegal25, ill .illegal26, ill .illegal27,
   ill .illegal28, ill .illegal29, ill .illegal2A, ill .illegal2B,
   ill .illegal2C, ill .illegal2D, ill .illegal2E, ill .illegal2F]
/-- Opcodes 0x30 to 0x3f. -/
def opcodeRows3 : List (Word → Instr) :=
  [ill .illegal30, ill .illegal31, ill .illegal32, decodeOp,
   ill .illegal34, ill .illegal35, ill .illegal36, decodeLui,
   ill .illegal38, ill .illegal39, ill .illegal3A, ill .illegal3B,
   ill .illegal3C, ill .illegal3D, ill .illegal3E, ill .illegal3F]
/-- Opcodes 0x40 to 0x4f. -/
def opcodeRows4 : List (Word → Instr) :=
  [ill .illegal40, ill .illegal41, ill .illegal42, ill .illegal43,
   ill .illegal44, ill .illegal45, ill .illegal46, ill .illegal47,
   ill .illegal48, ill .illegal49, ill .illegal4A, ill .illegal4B,
   ill .illegal4C, ill .illegal4D, ill .illegal4E, ill .illegal4F]
/-- Opcodes 0x50 to 0x5f. -/
def opcodeRows5 : List (Word → Instr) :=
  [ill .illegal50, ill .illegal51, ill .illegal52, ill .illegal53,
   ill .illegal54, ill .illegal55, ill .illegal56, ill .illegal57,
   ill .illegal58, ill .illegal59, ill .illegal5A, ill .illegal5B,
   ill .illegal5C, ill .illegal5D, ill .illegal5E, ill .illegal5F]
/-- Opcodes 0x60 to 0x6f. -/
def opcodeRows6 : List (Word → Instr) :=
  [ill .illegal60, ill .illegal61, ill .illegal62, decodeBranch,
   ill .illegal64, ill .illegal65, ill .illegal66, decodeJalr,
   ill .illegal68, ill .illegal69, ill .illegal6A, ill .illegal6B,
   ill .illegal6C, ill .illegal6D, ill .illegal6E, decodeJal]
/-- Opcodes 0x70 to 0x7f. -/
def opcodeRows7 : List (Word → Instr) :=
  [ill .illegal70, ill .illegal71, ill .illegal72, decodeSystem,
   ill .illegal74, ill .illegal75, ill .illegal76, ill .illegal77,
   ill .illegal78, ill .illegal79, ill .illegal7A, ill .illegal7B,
   ill .illegal7C, ill .illegal7D, ill .illegal7E, ill .illegal7F]

/-- All 128 values of the opcode field, in order. -/
def opcodeRows : List (Word → Instr) :=
  opcodeRows0 ++ opcodeRows1 ++ opcodeRows2 ++ opcodeRows3 ++
    opcodeRows4 ++ opcodeRows5 ++ opcodeRows6 ++ opcodeRows7

theorem opcodeRows_length : opcodeRows.length = 128 := by
  simp [opcodeRows, opcodeRows0, opcodeRows1, opcodeRows2, opcodeRows3, opcodeRows4, opcodeRows5,
    opcodeRows6, opcodeRows7]

/-- The row that an opcode selects, on all seven bits and on nothing else (rule R50). -/
def opcodeRow (opc : BitVec 7) : Word → Instr :=
  opcodeRows[opc.toNat]'(by rw [opcodeRows_length]; exact opc.isLt)

/-- The instruction a word is.  Total: every word selects one row (rules R50, R53). -/
def decodeInstr (w : Word) : Instr := opcodeRow (fOpcode w) w

/-- Why bits are not a word of this block. -/
inductive DecodeReject where
  /-- The bits do not form one 32-bit word (rules R11, R40): safe, such an input is outside the block (decision D13). -/
  | notOneWord
  deriving DecidableEq, Repr

/-- Decode `nbits` bits given as a number, bit 0 least significant; bits above `nbits` up to the word's width are zero. -/
def decodeBits (nbits w : Nat) : Except DecodeReject Instr :=
  if nbits ≤ Config.wordBits ∧ w < 2 ^ nbits then .ok (decodeInstr (BitVec.ofNat 32 w))
  else .error .notOneWord

/-- The instruction read from an opcode-table word.  The block takes the integer as given and has no byte order
(rule R31, decision D6), so the table's numbering of the bits is the word's own. -/
def decodeTableWord (nbits w : Nat) : Option Instr := (decodeBits nbits w).toOption

/-! ### The encoder -/

/-- A field placed with its lowest bit at word bit `lo`. -/
def place {n : Nat} (lo : Nat) (f : BitVec n) : Word := f.setWidth 32 <<< lo

/-- R format. -/
def encR (top : BitVec 1) (funct7 : BitVec 6) (rs2 rs1 : BitVec 5) (funct3 : BitVec 3) (rd : BitVec 5)
    (opc : BitVec 7) : Word :=
  place 31 top ||| place 25 funct7 ||| place 20 rs2 ||| place 15 rs1 ||| place 12 funct3 ||| place 7 rd ||| place 0 opc
/-- I format. -/
def encI (imm : BitVec 12) (rs1 : BitVec 5) (funct3 : BitVec 3) (rd : BitVec 5) (opc : BitVec 7) : Word :=
  place 20 imm ||| place 15 rs1 ||| place 12 funct3 ||| place 7 rd ||| place 0 opc
/-- S format. -/
def encS (imm : BitVec 12) (rs2 rs1 : BitVec 5) (funct3 : BitVec 3) (opc : BitVec 7) : Word :=
  place 25 (imm.extractLsb' 5 7) ||| place 20 rs2 ||| place 15 rs1 ||| place 12 funct3 |||
    place 7 (imm.extractLsb' 0 5) ||| place 0 opc
/-- B format. -/
def encB (offset : BitVec 13) (rs2 rs1 : BitVec 5) (funct3 : BitVec 3) (opc : BitVec 7) : Word :=
  place 31 (offset.extractLsb' 12 1) ||| place 25 (offset.extractLsb' 5 6) ||| place 20 rs2 ||| place 15 rs1 |||
    place 12 funct3 ||| place 8 (offset.extractLsb' 1 4) ||| place 7 (offset.extractLsb' 11 1) ||| place 0 opc
/-- U format. -/
def encU (imm : BitVec 20) (rd : BitVec 5) (opc : BitVec 7) : Word :=
  place 12 imm ||| place 7 rd ||| place 0 opc
/-- J format. -/
def encJ (offset : BitVec 21) (rd : BitVec 5) (opc : BitVec 7) : Word :=
  place 31 (offset.extractLsb' 20 1) ||| place 21 (offset.extractLsb' 1 10) ||| place 20 (offset.extractLsb' 11 1) |||
    place 12 (offset.extractLsb' 12 8) ||| place 7 rd ||| place 0 opc
/-- An unrecognised opcode under 25 bits that have no format. -/
def encIll (rest : BitVec 25) (opc : BitVec 7) : Word := place 7 rest ||| place 0 opc

/-- The word of a well-formed instruction. -/
def encode : Instr → Word
  | .lui rd imm => encU imm rd 0x37#7
  | .auipc rd imm => encU imm rd 0x17#7
  | .jal rd offset => encJ offset rd 0x6f#7
  | .jalr rd rs1 funct3 imm => encI imm rs1 funct3 rd 0x67#7
  | .branch rs1 rs2 funct3 offset => encB offset rs2 rs1 funct3 0x63#7
  | .load rd rs1 funct3 imm => encI imm rs1 funct3 rd 0x03#7
  | .store rs1 rs2 funct3 imm => encS imm rs2 rs1 funct3 0x23#7
  | .opImmF0 rd rs1 imm => encI imm rs1 0#3 rd 0x13#7
  | .opImmF1 rd rs1 imm => encI imm rs1 1#3 rd 0x13#7
  | .opImmF2 rd rs1 imm => encI imm rs1 2#3 rd 0x13#7
  | .opImmF3 rd rs1 imm => encI imm rs1 3#3 rd 0x13#7
  | .opImmF4 rd rs1 imm => encI imm rs1 4#3 rd 0x13#7
  | .opImmF5 rd rs1 imm => encI imm rs1 5#3 rd 0x13#7
  | .opImmF6 rd rs1 imm => encI imm rs1 6#3 rd 0x13#7
  | .opImmF7 rd rs1 imm => encI imm rs1 7#3 rd 0x13#7
  | .op rd rs1 rs2 funct3 funct7 top => encR top funct7 rs2 rs1 funct3 rd 0x33#7
  | .miscMem dest rs1 funct3 imm => encI imm rs1 funct3 dest 0x0f#7
  | .system dest rs1 funct3 imm => encI imm rs1 funct3 dest 0x73#7
  | .illegal00 rest => encIll rest 0x00#7
  | .illegal01 rest => encIll rest 0x01#7
  | .illegal02 rest => encIll rest 0x02#7
  | .illegal04 rest => encIll rest 0x04#7
  | .illegal05 rest => encIll rest 0x05#7
  | .illegal06 rest => encIll rest 0x06#7
  | .illegal07 rest => encIll rest 0x07#7
  | .illegal08 rest => encIll rest 0x08#7
  | .illegal09 rest => encIll rest 0x09#7
  | .illegal0A rest => encIll rest 0x0a#7
  | .illegal0B rest => encIll rest 0x0b#7
  | .illegal0C rest => encIll rest 0x0c#7
  | .illegal0D rest => encIll rest 0x0d#7
  | .illegal0E rest => encIll rest 0x0e#7
  | .illegal10 rest => encIll rest 0x10#7
  | .illegal11 rest => encIll rest 0x11#7
  | .illegal12 rest => encIll rest 0x12#7
  | .illegal14 rest => encIll rest 0x14#7
  | .illegal15 rest => encIll rest 0x15#7
  | .illegal16 rest => encIll rest 0x16#7
  | .illegal18 rest => encIll rest 0x18#7
  | .illegal19 rest => encIll rest 0x19#7
  | .illegal1A rest => encIll rest 0x1a#7
  | .illegal1B rest => encIll rest 0x1b#7
  | .illegal1C rest => encIll rest 0x1c#7
  | .illegal1D rest => encIll rest 0x1d#7
  | .illegal1E rest => encIll rest 0x1e#7
  | .illegal1F rest => encIll rest 0x1f#7
  | .illegal20 rest => encIll rest 0x20#7
  | .illegal21 rest => encIll rest 0x21#7
  | .illegal22 rest => encIll rest 0x22#7
  | .illegal24 rest => encIll rest 0x24#7
  | .illegal25 rest => encIll rest 0x25#7
  | .illegal26 rest => encIll rest 0x26#7
  | .illegal27 rest => encIll rest 0x27#7
  | .illegal28 rest => encIll rest 0x28#7
  | .illegal29 rest => encIll rest 0x29#7
  | .illegal2A rest => encIll rest 0x2a#7
  | .illegal2B rest => encIll rest 0x2b#7
  | .illegal2C rest => encIll rest 0x2c#7
  | .illegal2D rest => encIll rest 0x2d#7
  | .illegal2E rest => encIll rest 0x2e#7
  | .illegal2F rest => encIll rest 0x2f#7
  | .illegal30 rest => encIll rest 0x30#7
  | .illegal31 rest => encIll rest 0x31#7
  | .illegal32 rest => encIll rest 0x32#7
  | .illegal34 rest => encIll rest 0x34#7
  | .illegal35 rest => encIll rest 0x35#7
  | .illegal36 rest => encIll rest 0x36#7
  | .illegal38 rest => encIll rest 0x38#7
  | .illegal39 rest => encIll rest 0x39#7
  | .illegal3A rest => encIll rest 0x3a#7
  | .illegal3B rest => encIll rest 0x3b#7
  | .illegal3C rest => encIll rest 0x3c#7
  | .illegal3D rest => encIll rest 0x3d#7
  | .illegal3E rest => encIll rest 0x3e#7
  | .illegal3F rest => encIll rest 0x3f#7
  | .illegal40 rest => encIll rest 0x40#7
  | .illegal41 rest => encIll rest 0x41#7
  | .illegal42 rest => encIll rest 0x42#7
  | .illegal43 rest => encIll rest 0x43#7
  | .illegal44 rest => encIll rest 0x44#7
  | .illegal45 rest => encIll rest 0x45#7
  | .illegal46 rest => encIll rest 0x46#7
  | .illegal47 rest => encIll rest 0x47#7
  | .illegal48 rest => encIll rest 0x48#7
  | .illegal49 rest => encIll rest 0x49#7
  | .illegal4A rest => encIll rest 0x4a#7
  | .illegal4B rest => encIll rest 0x4b#7
  | .illegal4C rest => encIll rest 0x4c#7
  | .illegal4D rest => encIll rest 0x4d#7
  | .illegal4E rest => encIll rest 0x4e#7
  | .illegal4F rest => encIll rest 0x4f#7
  | .illegal50 rest => encIll rest 0x50#7
  | .illegal51 rest => encIll rest 0x51#7
  | .illegal52 rest => encIll rest 0x52#7
  | .illegal53 rest => encIll rest 0x53#7
  | .illegal54 rest => encIll rest 0x54#7
  | .illegal55 rest => encIll rest 0x55#7
  | .illegal56 rest => encIll rest 0x56#7
  | .illegal57 rest => encIll rest 0x57#7
  | .illegal58 rest => encIll rest 0x58#7
  | .illegal59 rest => encIll rest 0x59#7
  | .illegal5A rest => encIll rest 0x5a#7
  | .illegal5B rest => encIll rest 0x5b#7
  | .illegal5C rest => encIll rest 0x5c#7
  | .illegal5D rest => encIll rest 0x5d#7
  | .illegal5E rest => encIll rest 0x5e#7
  | .illegal5F rest => encIll rest 0x5f#7
  | .illegal60 rest => encIll rest 0x60#7
  | .illegal61 rest => encIll rest 0x61#7
  | .illegal62 rest => encIll rest 0x62#7
  | .illegal64 rest => encIll rest 0x64#7
  | .illegal65 rest => encIll rest 0x65#7
  | .illegal66 rest => encIll rest 0x66#7
  | .illegal68 rest => encIll rest 0x68#7
  | .illegal69 rest => encIll rest 0x69#7
  | .illegal6A rest => encIll rest 0x6a#7
  | .illegal6B rest => encIll rest 0x6b#7
  | .illegal6C rest => encIll rest 0x6c#7
  | .illegal6D rest => encIll rest 0x6d#7
  | .illegal6E rest => encIll rest 0x6e#7
  | .illegal70 rest => encIll rest 0x70#7
  | .illegal71 rest => encIll rest 0x71#7
  | .illegal72 rest => encIll rest 0x72#7
  | .illegal74 rest => encIll rest 0x74#7
  | .illegal75 rest => encIll rest 0x75#7
  | .illegal76 rest => encIll rest 0x76#7
  | .illegal77 rest => encIll rest 0x77#7
  | .illegal78 rest => encIll rest 0x78#7
  | .illegal79 rest => encIll rest 0x79#7
  | .illegal7A rest => encIll rest 0x7a#7
  | .illegal7B rest => encIll rest 0x7b#7
  | .illegal7C rest => encIll rest 0x7c#7
  | .illegal7D rest => encIll rest 0x7d#7
  | .illegal7E rest => encIll rest 0x7e#7
  | .illegal7F rest => encIll rest 0x7f#7

end Sys2Proof
end

