-- ==== Sys2Proof/Machine/State.lean ====
section
/-! DEFINITION. The Instruction record (rules R12 to R17), the block's own state, which is the unit type (rule R10), beside it what
stands on the two ports (rules R11, R12, log entry 1), why a step could stop, and the state the model starts from (log entry 2). -/

namespace Sys2Proof.Machine

/-- The twelve symbolic operation codes, in the source's listing order (rule R17). -/
inductive OpCode where
  | MOV | ADDI | ALU | CMP | LD | ST | JMP | JPR | JCC | SPC | NOP | EXP
  deriving DecidableEq, Repr

/-- The Instruction record, the block's one output (rule R12).  The four register indices are 6 bits wide (decision D2). -/
structure Instruction where
  /-- The raw opcode field, always present (rule R13). -/
  opcode : BitVec 7
  /-- Destination index (rule R14). -/
  rd : BitVec 6
  /-- First source index, or the sentinel 33 (rules R14, R18). -/
  rs1 : BitVec 6
  /-- Second source index, or a sentinel 32 or 34 (rules R14, R18). -/
  rs2 : BitVec 6
  /-- Store-data index, otherwise zero (rule R19). -/
  rs3 : BitVec 6
  /-- Sub-operation code, raw (rule R15). -/
  funct3 : BitVec 3
  /-- Sub-operation code, raw, word bits 30 to 25 (rule R15, conflict C1). -/
  funct7 : BitVec 6
  /-- The resolved immediate (rule R16). -/
  immd : BitVec 32
  /-- Primary operation (rule R17). -/
  op : OpCode
  /-- Secondary classification (rule R17). -/
  op2 : OpCode
  deriving DecidableEq, Repr

/-- The six outputs of the field extractor, internal to the block (rules R60 to R66, decision D9). -/
structure RawFields where
  opcode : BitVec 7
  rd : BitVec 5
  funct3 : BitVec 3
  rs1 : BitVec 5
  rs2 : BitVec 5
  funct7 : BitVec 6
  deriving DecidableEq, Repr

/-- The nine outputs of the immediate resolver, internal to the block (rules R43, R79, decision D9). -/
structure Immediates where
  immI_z : Word
  immI_s : Word
  immS_z : Word
  immS_s : Word
  immU_z : Word
  immB_z : Word
  immB_s : Word
  immJ_z : Word
  immJ_s : Word
  deriving DecidableEq, Repr

/-- The state type of the block: "the unit type" (rule R10). -/
abbrev BlockState := Unit

/-- The block's own state and what stands on its ports.  The ports are the caller's side and no storage: at every instant `out` is the
record of `word` (rule R26; the invariant `Settled`, which reset, every presentation and every step keep). -/
structure State where
  /-- What the block itself holds: nothing (rule R10). -/
  held : BlockState := ()
  /-- The input port `word_i[31:0]` (rule R11). -/
  word : Word
  /-- The ten output ports (rule R12). -/
  out : Instruction
  deriving DecidableEq, Repr

/-- The block raises nothing: there is no trap, fault, error or abort (rules R130, R133), so there is no fault to name. -/
inductive Fault where
  deriving DecidableEq, Repr

/-- Why an instruction has no meaning here. -/
inductive Refusal where
  /-- Would be raised by an arm of `exec` without a meaning; safe.  No arm raises it. -/
  | notModelled (mnemonic : String)
  deriving DecidableEq, Repr

/-- The all-zero word on the input and its record on the outputs (rules R26, R27).  The spec gives no reset: log entry 2. -/
def State.reset : State where
  word := 0x00000000#32
  out :=
    { opcode := 0x00#7, rd := 0#6, rs1 := 0#6, rs2 := 0#6, rs3 := 0#6, funct3 := 0#3, funct7 := 0x00#6,
      immd := 0x00000000#32, op := .NOP, op2 := .EXP }

end Sys2Proof.Machine
end

