-- ==== Sys2Proof/Machine/Flags.lean ====
section
/-! DEFINITION. The block has no flag, condition code or status bit (rule R24).  What a caller tests in place of a flag or a trap
line are values of `op` and `op2` (rules R118, R136); those tests stand here. -/

namespace Sys2Proof.Machine

/-- The illegal-instruction marker, `op2 = EXP` (rules R118, R132). -/
def Instruction.isIllegal (r : Instruction) : Bool := r.op2 == .EXP

/-- A system word, `op2 = SPC` (rules R116, R136). -/
def Instruction.isSystem (r : Instruction) : Bool := r.op2 == .SPC

/-- The records whose `op2` asks the caller to consider a trap (rule R136); sub-codes are the caller's to judge (rule R131). -/
def Instruction.asksForTrap (r : Instruction) : Bool := r.isIllegal || r.isSystem

end Sys2Proof.Machine
end

