-- ==== Sys2Proof/Machine/Operands.lean ====
section
/-! DEFINITION. The operands a handler reads: the raw fields (file 40), the nine resolved immediates (file 41), and the sentinel
register indices with their tagged reading (rule R18, decision D15). -/

namespace Sys2Proof.Machine

/-! ### The field extractor as one part of the block -/

/-- All six raw fields, for every word (rule R66). -/
def extract (w : Word) : RawFields where
  opcode := fOpcode w
  rd := fRd w
  funct3 := fFunct3 w
  rs1 := fRs1 w
  rs2 := fRs2 w
  funct7 := fFunct7 w

/-! ### The immediate resolver, each value by the source's own formula -/

/-- `(w >> 20) & 0xfff` (rule R70). -/
def immI_z (w : Word) : Word := (w >>> 20) &&& 0xfff#32

/-- Bit 11 replicated upward (rule R71). -/
def immI_s (w : Word) : Word :=
  if (immI_z w).getLsbD 11 then immI_z w ||| 0xFFFFF000#32 else immI_z w

/-- `(((w >> 25) & 0x7f) << 5) | ((w >> 7) & 0x1f)` (rule R72). -/
def immS_z (w : Word) : Word := (((w >>> 25) &&& 0x7f#32) <<< 5) ||| ((w >>> 7) &&& 0x1f#32)

/-- Bit 11 replicated upward (rule R73). -/
def immS_s (w : Word) : Word :=
  if (immS_z w).getLsbD 11 then immS_z w ||| 0xFFFFF000#32 else immS_z w

/-- `w & 0xFFFFF000`; there is no separate sign-extended form (rule R74, conflict C2). -/
def immU_z (w : Word) : Word := w &&& 0xFFFFF000#32

/-- Word bit 31 to bit 12, bit 7 to bit 11, bits 30:25 to 10:5, bits 11:8 to 4:1 (rule R75). -/
def immB_z (w : Word) : Word :=
  (((w >>> 31) &&& 0x1#32) <<< 12) ||| (((w >>> 7) &&& 0x1#32) <<< 11) |||
    (((w >>> 25) &&& 0x3f#32) <<< 5) ||| (((w >>> 8) &&& 0xf#32) <<< 1)

/-- Bit 12 replicated upward (rule R76). -/
def immB_s (w : Word) : Word :=
  if (immB_z w).getLsbD 12 then immB_z w ||| 0xFFFFE000#32 else immB_z w

/-- Word bit 31 to bit 20, bits 19:12 to 19:12, bit 20 to bit 11, bits 30:21 to 10:1 (rule R77). -/
def immJ_z (w : Word) : Word :=
  (((w >>> 31) &&& 0x1#32) <<< 20) ||| (((w >>> 12) &&& 0xff#32) <<< 12) |||
    (((w >>> 20) &&& 0x1#32) <<< 11) ||| (((w >>> 21) &&& 0x3ff#32) <<< 1)

/-- Bit 20 replicated upward (rule R78). -/
def immJ_s (w : Word) : Word :=
  if (immJ_z w).getLsbD 20 then immJ_z w ||| 0xFFE00000#32 else immJ_z w

/-- All nine values, for every word, whatever its opcode (rule R79). -/
def resolve (w : Word) : Immediates where
  immI_z := immI_z w
  immI_s := immI_s w
  immS_z := immS_z w
  immS_s := immS_s w
  immU_z := immU_z w
  immB_z := immB_z w
  immB_s := immB_s w
  immJ_z := immJ_z w
  immJ_s := immJ_s w

/-! ### Register indices -/

/-- A raw 5-bit field on a 6-bit index port (rule R51). -/
def rawIndex (f : BitVec 5) : BitVec 6 := f.setWidth 6

/-- The operand is the resolved immediate `immd` (rule R18). -/
def sentImm : BitVec 6 := 32#6
/-- The operand is the address of this instruction, held by the caller (rule R18). -/
def sentPc : BitVec 6 := 33#6
/-- The operand is that address plus 4 (rule R18). -/
def sentPc4 : BitVec 6 := 34#6

/-- The tagged reading of an index (rule R18, decision D15). -/
inductive Operand where
  | register (index : BitVec 5)
  | immediate
  | programCounter
  | programCounterPlusFour
  deriving DecidableEq, Repr

/-- The index that stands for an operand: the normative integer form (decision D15). -/
def Operand.index : Operand → BitVec 6
  | .register i => rawIndex i
  | .immediate => sentImm
  | .programCounter => sentPc
  | .programCounterPlusFour => sentPc4

/-- What a consumer reads an index as; 35 to 63 name no operand and are never driven (rule R14). -/
def operandOfIndex (x : BitVec 6) : Option Operand :=
  if x.toNat < 32 then some (.register (x.setWidth 5))
  else if x = sentImm then some .immediate
  else if x = sentPc then some .programCounter
  else if x = sentPc4 then some .programCounterPlusFour
  else none

end Sys2Proof.Machine
end

