-- ==== Sys2Proof/Machine/Ops.lean ====
section
/-! DEFINITION. What the block does to its ports: the one shared operation every meaning is an instance of (rules R3, R52).  There
are no operations over memory or registers (rules R21, R30) and no taking of an exception (rules R130, R136). -/

namespace Sys2Proof.Machine

/-- The output ports show record `r`; the block cannot write its input and has nothing else to write (rules R10, R11). -/
def State.drive (s : State) (r : Instruction) : State := { s with out := r }

/-- Extract, resolve, then the one selected handler, on the word that instruction `i` stands for; its record is driven
(rules R3, R52).  Nothing can stop it (rule R130). -/
def runHandler (h : RawFields → Immediates → Instruction) (i : Instr) (s : State) :
    Host.Outcome State Fault Refusal :=
  .next (s.drive (h (extract (encode i)) (resolve (encode i))))

end Sys2Proof.Machine
end

