-- ==== Sys2Proof/Machine/Alu.lean ====
section
/-! DEFINITION. The handlers and meanings of the register-immediate and register-register ALU opcodes (file 44, rules R105 to
R107). -/

namespace Sys2Proof.Machine

/-- Rule R105: `op` by funct3, and the mask to 5 bits after the sign extension for funct3 1 and 5 (decision D5). -/
def handlerOpImm (f : RawFields) (m : Immediates) : Instruction where
  opcode := f.opcode
  rd := rawIndex f.rd
  rs1 := rawIndex f.rs1
  rs2 := sentImm
  rs3 := 0#6
  funct3 := f.funct3
  funct7 := f.funct7
  immd := if f.funct3 = 1#3 ∨ f.funct3 = 5#3 then m.immI_s &&& 0x0000001f#32 else m.immI_s
  op := if f.funct3 = 0#3 then .ADDI else .ALU
  op2 := .NOP

/-- Rule R106; word bit 31 reaches no output. -/
def handlerOp (f : RawFields) (_m : Immediates) : Instruction where
  opcode := f.opcode
  rd := rawIndex f.rd
  rs1 := rawIndex f.rs1
  rs2 := rawIndex f.rs2
  rs3 := 0#6
  funct3 := f.funct3
  funct7 := f.funct7
  immd := 0#32
  op := .ALU
  op2 := .NOP

/-- OP_IMM with funct3 = 0 (rule R105). -/
def execOpImmF0 (rd rs1 : BitVec 5) (imm : BitVec 12) (s : State) : Host.Outcome State Fault Refusal :=
  runHandler handlerOpImm (.opImmF0 rd rs1 imm) s

/-- OP_IMM with funct3 = 1 (rule R105). -/
def execOpImmF1 (rd rs1 : BitVec 5) (imm : BitVec 12) (s : State) : Host.Outcome State Fault Refusal :=
  runHandler handlerOpImm (.opImmF1 rd rs1 imm) s

/-- OP_IMM with funct3 = 2 (rule R105). -/
def execOpImmF2 (rd rs1 : BitVec 5) (imm : BitVec 12) (s : State) : Host.Outcome State Fault Refusal :=
  runHandler handlerOpImm (.opImmF2 rd rs1 imm) s

/-- OP_IMM with funct3 = 3 (rule R105). -/
def execOpImmF3 (rd rs1 : BitVec 5) (imm : BitVec 12) (s : State) : Host.Outcome State Fault Refusal :=
  runHandler handlerOpImm (.opImmF3 rd rs1 imm) s

/-- OP_IMM with funct3 = 4 (rule R105). -/
def execOpImmF4 (rd rs1 : BitVec 5) (imm : BitVec 12) (s : State) : Host.Outcome State Fault Refusal :=
  runHandler handlerOpImm (.opImmF4 rd rs1 imm) s

/-- OP_IMM with funct3 = 5 (rule R105). -/
def execOpImmF5 (rd rs1 : BitVec 5) (imm : BitVec 12) (s : State) : Host.Outcome State Fault Refusal :=
  runHandler handlerOpImm (.opImmF5 rd rs1 imm) s

/-- OP_IMM with funct3 = 6 (rule R105). -/
def execOpImmF6 (rd rs1 : BitVec 5) (imm : BitVec 12) (s : State) : Host.Outcome State Fault Refusal :=
  runHandler handlerOpImm (.opImmF6 rd rs1 imm) s

/-- OP_IMM with funct3 = 7 (rule R105). -/
def execOpImmF7 (rd rs1 : BitVec 5) (imm : BitVec 12) (s : State) : Host.Outcome State Fault Refusal :=
  runHandler handlerOpImm (.opImmF7 rd rs1 imm) s

/-- OP (rule R106). -/
def execOp (rd rs1 rs2 : BitVec 5) (funct3 : BitVec 3) (funct7 : BitVec 6) (top : BitVec 1) (s : State) :
    Host.Outcome State Fault Refusal :=
  runHandler handlerOp (.op rd rs1 rs2 funct3 funct7 top) s

end Sys2Proof.Machine
end

