-- ==== Sys2Proof/Machine/FenceSystem.lean ====
section
/-! DEFINITION. The handlers and meanings of the fence and system opcodes (file 45, rules R115, R116, R119).  The block orders
nothing and raises nothing; it classifies (rules R36, R136). -/

namespace Sys2Proof.Machine

/-- Rule R115; `rs2` carries word bits 24 to 20, which are immediate bits. -/
def handlerMiscMem (f : RawFields) (m : Immediates) : Instruction where
  opcode := f.opcode
  rd := 0#6
  rs1 := rawIndex f.rs1
  rs2 := rawIndex f.rs2
  rs3 := 0#6
  funct3 := f.funct3
  funct7 := f.funct7
  immd := m.immI_s
  op := .NOP
  op2 := .NOP

/-- Rule R116; one class for the whole opcode, `rd` constant. -/
def handlerSystem (f : RawFields) (m : Immediates) : Instruction where
  opcode := f.opcode
  rd := 0#6
  rs1 := rawIndex f.rs1
  rs2 := rawIndex f.rs2
  rs3 := 0#6
  funct3 := f.funct3
  funct7 := f.funct7
  immd := m.immI_s
  op := .NOP
  op2 := .SPC

/-- MISC_MEM (rule R115). -/
def execMiscMem (dest rs1 : BitVec 5) (funct3 : BitVec 3) (imm : BitVec 12) (s : State) :
    Host.Outcome State Fault Refusal :=
  runHandler handlerMiscMem (.miscMem dest rs1 funct3 imm) s

/-- SYSTEM (rule R116). -/
def execSystem (dest rs1 : BitVec 5) (funct3 : BitVec 3) (imm : BitVec 12) (s : State) :
    Host.Outcome State Fault Refusal :=
  runHandler handlerSystem (.system dest rs1 funct3 imm) s

end Sys2Proof.Machine
end

