-- ==== Sys2Proof/Machine/Illegal.lean ====
section
/-! DEFINITION. The default handler, every unrecognised opcode (file 45, rules R117, R118), and the meanings of its 117 rows. -/

namespace Sys2Proof.Machine

/-- Rule R117, the illegal-instruction marker record.  `opcode`, `funct3` and `funct7` stay raw (decision D4, log entry 5);
treating the record as a trap is the caller's duty (rule R118). -/
def handlerIllegal (f : RawFields) (_m : Immediates) : Instruction where
  opcode := f.opcode
  rd := 0#6
  rs1 := 0#6
  rs2 := 0#6
  rs3 := 0#6
  funct3 := f.funct3
  funct7 := f.funct7
  immd := 0#32
  op := .NOP
  op2 := .EXP

/-- ILLEGAL_00 (rule R117). -/
def execIllegal00 (rest : BitVec 25) (s : State) : Host.Outcome State Fault Refusal :=
  runHandler handlerIllegal (.illegal00 rest) s
/-- ILLEGAL_01 (rule R117). -/
def execIllegal01 (rest : BitVec 25) (s : State) : Host.Outcome State Fault Refusal :=
  runHandler handlerIllegal (.illegal01 rest) s
/-- ILLEGAL_02 (rule R117). -/
def execIllegal02 (rest : BitVec 25) (s : State) : Host.Outcome State Fault Refusal :=
  runHandler handlerIllegal (.illegal02 rest) s
/-- ILLEGAL_04 (rule R117). -/
def execIllegal04 (rest : BitVec 25) (s : State) : Host.Outcome State Fault Refusal :=
  runHandler handlerIllegal (.illegal04 rest) s
/-- ILLEGAL_05 (rule R117). -/
def execIllegal05 (rest : BitVec 25) (s : State) : Host.Outcome State Fault Refusal :=
  runHandler handlerIllegal (.illegal05 rest) s
/-- ILLEGAL_06 (rule R117). -/
def execIllegal06 (rest : BitVec 25) (s : State) : Host.Outcome State Fault Refusal :=
  runHandler handlerIllegal (.illegal06 rest) s
/-- ILLEGAL_07 (rule R117). -/
def execIllegal07 (rest : BitVec 25) (s : State) : Host.Outcome State Fault Refusal :=
  runHandler handlerIllegal (.illegal07 rest) s
/-- ILLEGAL_08 (rule R117). -/
def execIllegal08 (rest : BitVec 25) (s : State) : Host.Outcome State Fault Refusal :=
  runHandler handlerIllegal (.illegal08 rest) s
/-- ILLEGAL_09 (rule R117). -/
def execIllegal09 (rest : BitVec 25) (s : State) : Host.Outcome State Fault Refusal :=
  runHandler handlerIllegal (.illegal09 rest) s
/-- ILLEGAL_0A (rule R117). -/
def execIllegal0A (rest : BitVec 25) (s : State) : Host.Outcome State Fault Refusal :=
  runHandler handlerIllegal (.illegal0A rest) s
/-- ILLEGAL_0B (rule R117). -/
def execIllegal0B (rest : BitVec 25) (s : State) : Host.Outcome State Fault Refusal :=
  runHandler handlerIllegal (.illegal0B rest) s
/-- ILLEGAL_0C (rule R117). -/
def execIllegal0C (rest : BitVec 25) (s : State) : Host.Outcome State Fault Refusal :=
  runHandler handlerIllegal (.illegal0C rest) s
/-- ILLEGAL_0D (rule R117). -/
def execIllegal0D (rest : BitVec 25) (s : State) : Host.Outcome State Fault Refusal :=
  runHandler handlerIllegal (.illegal0D rest) s
/-- ILLEGAL_0E (rule R117). -/
def execIllegal0E (rest : BitVec 25) (s : State) : Host.Outcome State Fault Refusal :=
  runHandler handlerIllegal (.illegal0E rest) s
/-- ILLEGAL_10 (rule R117). -/
def execIllegal10 (rest : BitVec 25) (s : State) : Host.Outcome State Fault Refusal :=
  runHandler handlerIllegal (.illegal10 rest) s
/-- ILLEGAL_11 (rule R117). -/
def execIllegal11 (rest : BitVec 25) (s : State) : Host.Outcome State Fault Refusal :=
  runHandler handlerIllegal (.illegal11 rest) s
/-- ILLEGAL_12 (rule R117). -/
def execIllegal12 (rest : BitVec 25) (s : State) : Host.Outcome State Fault Refusal :=
  runHandler handlerIllegal (.illegal12 rest) s
/-- ILLEGAL_14 (rule R117). -/
def execIllegal14 (rest : BitVec 25) (s : State) : Host.Outcome State Fault Refusal :=
  runHandler handlerIllegal (.illegal14 rest) s
/-- ILLEGAL_15 (rule R117). -/
def execIllegal15 (rest : BitVec 25) (s : State) : Host.Outcome State Fault Refusal :=
  runHandler handlerIllegal (.illegal15 rest) s
/-- ILLEGAL_16 (rule R117). -/
def execIllegal16 (rest : BitVec 25) (s : State) : Host.Outcome State Fault Refusal :=
  runHandler handlerIllegal (.illegal16 rest) s
/-- ILLEGAL_18 (rule R117). -/
def execIllegal18 (rest : BitVec 25) (s : State) : Host.Outcome State Fault Refusal :=
  runHandler handlerIllegal (.illegal18 rest) s
/-- ILLEGAL_19 (rule R117). -/
def execIllegal19 (rest : BitVec 25) (s : State) : Host.Outcome State Fault Refusal :=
  runHandler handlerIllegal (.illegal19 rest) s
/-- ILLEGAL_1A (rule R117). -/
def execIllegal1A (rest : BitVec 25) (s : State) : Host.Outcome State Fault Refusal :=
  runHandler handlerIllegal (.illegal1A rest) s
/-- ILLEGAL_1B (rule R117). -/
def execIllegal1B (rest : BitVec 25) (s : State) : Host.Outcome State Fault Refusal :=
  runHandler handlerIllegal (.illegal1B rest) s
/-- ILLEGAL_1C (rule R117). -/
def execIllegal1C (rest : BitVec 25) (s : State) : Host.Outcome State Fault Refusal :=
  runHandler handlerIllegal (.illegal1C rest) s
/-- ILLEGAL_1D (rule R117). -/
def execIllegal1D (rest : BitVec 25) (s : State) : Host.Outcome State Fault Refusal :=
  runHandler handlerIllegal (.illegal1D rest) s
/-- ILLEGAL_1E (rule R117). -/
def execIllegal1E (rest : BitVec 25) (s : State) : Host.Outcome State Fault Refusal :=
  runHandler handlerIllegal (.illegal1E rest) s
/-- ILLEGAL_1F (rule R117). -/
def execIllegal1F (rest : BitVec 25) (s : State) : Host.Outcome State Fault Refusal :=
  runHandler handlerIllegal (.illegal1F rest) s
/-- ILLEGAL_20 (rule R117). -/
def execIllegal20 (rest : BitVec 25) (s : State) : Host.Outcome State Fault Refusal :=
  runHandler handlerIllegal (.illegal20 rest) s
/-- ILLEGAL_21 (rule R117). -/
def execIllegal21 (rest : BitVec 25) (s : State) : Host.Outcome State Fault Refusal :=
  runHandler handlerIllegal (.illegal21 rest) s
/-- ILLEGAL_22 (rule R117). -/
def execIllegal22 (rest : BitVec 25) (s : State) : Host.Outcome State Fault Refusal :=
  runHandler handlerIllegal (.illegal22 rest) s
/-- ILLEGAL_24 (rule R117). -/
def execIllegal24 (rest : BitVec 25) (s : State) : Host.Outcome State Fault Refusal :=
  runHandler handlerIllegal (.illegal24 rest) s
/-- ILLEGAL_25 (rule R117). -/
def execIllegal25 (rest : BitVec 25) (s : State) : Host.Outcome State Fault Refusal :=
  runHandler handlerIllegal (.illegal25 rest) s
/-- ILLEGAL_26 (rule R117). -/
def execIllegal26 (rest : BitVec 25) (s : State) : Host.Outcome State Fault Refusal :=
  runHandler handlerIllegal (.illegal26 rest) s
/-- ILLEGAL_27 (rule R117). -/
def execIllegal27 (rest : BitVec 25) (s : State) : Host.Outcome State Fault Refusal :=
  runHandler handlerIllegal (.illegal27 rest) s
/-- ILLEGAL_28 (rule R117). -/
def execIllegal28 (rest : BitVec 25) (s : State) : Host.Outcome State Fault Refusal :=
  runHandler handlerIllegal (.illegal28 rest) s
/-- ILLEGAL_29 (rule R117). -/
def execIllegal29 (rest : BitVec 25) (s : State) : Host.Outcome State Fault Refusal :=
  runHandler handlerIllegal (.illegal29 rest) s
/-- ILLEGAL_2A (rule R117). -/
def execIllegal2A (rest : BitVec 25) (s : State) : Host.Outcome State Fault Refusal :=
  runHandler handlerIllegal (.illegal2A rest) s
/-- ILLEGAL_2B (rule R117). -/
def execIllegal2B (rest : BitVec 25) (s : State) : Host.Outcome State Fault Refusal :=
  runHandler handlerIllegal (.illegal2B rest) s
/-- ILLEGAL_2C (rule R117). -/
def execIllegal2C (rest : BitVec 25) (s : State) : Host.Outcome State Fault Refusal :=
  runHandler handlerIllegal (.illegal2C rest) s
/-- ILLEGAL_2D (rule R117). -/
def execIllegal2D (rest : BitVec 25) (s : State) : Host.Outcome State Fault Refusal :=
  runHandler handlerIllegal (.illegal2D rest) s
/-- ILLEGAL_2E (rule R117). -/
def execIllegal2E (rest : BitVec 25) (s : State) : Host.Outcome State Fault Refusal :=
  runHandler handlerIllegal (.illegal2E rest) s
/-- ILLEGAL_2F (rule R117). -/
def execIllegal2F (rest : BitVec 25) (s : State) : Host.Outcome State Fault Refusal :=
  runHandler handlerIllegal (.illegal2F rest) s
/-- ILLEGAL_30 (rule R117). -/
def execIllegal30 (rest : BitVec 25) (s : State) : Host.Outcome State Fault Refusal :=
  runHandler handlerIllegal (.illegal30 rest) s
/-- ILLEGAL_31 (rule R117). -/
def execIllegal31 (rest : BitVec 25) (s : State) : Host.Outcome State Fault Refusal :=
  runHandler handlerIllegal (.illegal31 rest) s
/-- ILLEGAL_32 (rule R117). -/
def execIllegal32 (rest : BitVec 25) (s : State) : Host.Outcome State Fault Refusal :=
  runHandler handlerIllegal (.illegal32 rest) s
/-- ILLEGAL_34 (rule R117). -/
def execIllegal34 (rest : BitVec 25) (s : State) : Host.Outcome State Fault Refusal :=
  runHandler handlerIllegal (.illegal34 rest) s
/-- ILLEGAL_35 (rule R117). -/
def execIllegal35 (rest : BitVec 25) (s : State) : Host.Outcome State Fault Refusal :=
  runHandler handlerIllegal (.illegal35 rest) s
/-- ILLEGAL_36 (rule R117). -/
def execIllegal36 (rest : BitVec 25) (s : State) : Host.Outcome State Fault Refusal :=
  runHandler handlerIllegal (.illegal36 rest) s
/-- ILLEGAL_38 (rule R117). -/
def execIllegal38 (rest : BitVec 25) (s : State) : Host.Outcome State Fault Refusal :=
  runHandler handlerIllegal (.illegal38 rest) s
/-- ILLEGAL_39 (rule R117). -/
def execIllegal39 (rest : BitVec 25) (s : State) : Host.Outcome State Fault Refusal :=
  runHandler handlerIllegal (.illegal39 rest) s
/-- ILLEGAL_3A (rule R117). -/
def execIllegal3A (rest : BitVec 25) (s : State) : Host.Outcome State Fault Refusal :=
  runHandler handlerIllegal (.illegal3A rest) s
/-- ILLEGAL_3B (rule R117). -/
def execIllegal3B (rest : BitVec 25) (s : State) : Host.Outcome State Fault Refusal :=
  runHandler handlerIllegal (.illegal3B rest) s
/-- ILLEGAL_3C (rule R117). -/
def execIllegal3C (rest : BitVec 25) (s : State) : Host.Outcome State Fault Refusal :=
  runHandler handlerIllegal (.illegal3C rest) s
/-- ILLEGAL_3D (rule R117). -/
def execIllegal3D (rest : BitVec 25) (s : State) : Host.Outcome State Fault Refusal :=
  runHandler handlerIllegal (.illegal3D rest) s
/-- ILLEGAL_3E (rule R117). -/
def execIllegal3E (rest : BitVec 25) (s : State) : Host.Outcome State Fault Refusal :=
  runHandler handlerIllegal (.illegal3E rest) s
/-- ILLEGAL_3F (rule R117). -/
def execIllegal3F (rest : BitVec 25) (s : State) : Host.Outcome State Fault Refusal :=
  runHandler handlerIllegal (.illegal3F rest) s
/-- ILLEGAL_40 (rule R117). -/
def execIllegal40 (rest : BitVec 25) (s : State) : Host.Outcome State Fault Refusal :=
  runHandler handlerIllegal (.illegal40 rest) s
/-- ILLEGAL_41 (rule R117). -/
def execIllegal41 (rest : BitVec 25) (s : State) : Host.Outcome State Fault Refusal :=
  runHandler handlerIllegal (.illegal41 rest) s
/-- ILLEGAL_42 (rule R117). -/
def execIllegal42 (rest : BitVec 25) (s : State) : Host.Outcome State Fault Refusal :=
  runHandler handlerIllegal (.illegal42 rest) s
/-- ILLEGAL_43 (rule R117). -/
def execIllegal43 (rest : BitVec 25) (s : State) : Host.Outcome State Fault Refusal :=
  runHandler handlerIllegal (.illegal43 rest) s
/-- ILLEGAL_44 (rule R117). -/
def execIllegal44 (rest : BitVec 25) (s : State) : Host.Outcome State Fault Refusal :=
  runHandler handlerIllegal (.illegal44 rest) s
/-- ILLEGAL_45 (rule R117). -/
def execIllegal45 (rest : BitVec 25) (s : State) : Host.Outcome State Fault Refusal :=
  runHandler handlerIllegal (.illegal45 rest) s
/-- ILLEGAL_46 (rule R117). -/
def execIllegal46 (rest : BitVec 25) (s : State) : Host.Outcome State Fault Refusal :=
  runHandler handlerIllegal (.illegal46 rest) s
/-- ILLEGAL_47 (rule R117). -/
def execIllegal47 (rest : BitVec 25) (s : State) : Host.Outcome State Fault Refusal :=
  runHandler handlerIllegal (.illegal47 rest) s
/-- ILLEGAL_48 (rule R117). -/
def execIllegal48 (rest : BitVec 25) (s : State) : Host.Outcome State Fault Refusal :=
  runHandler handlerIllegal (.illegal48 rest) s
/-- ILLEGAL_49 (rule R117). -/
def execIllegal49 (rest : BitVec 25) (s : State) : Host.Outcome State Fault Refusal :=
  runHandler handlerIllegal (.illegal49 rest) s
/-- ILLEGAL_4A (rule R117). -/
def execIllegal4A (rest : BitVec 25) (s : State) : Host.Outcome State Fault Refusal :=
  runHandler handlerIllegal (.illegal4A rest) s
/-- ILLEGAL_4B (rule R117). -/
def execIllegal4B (rest : BitVec 25) (s : State) : Host.Outcome State Fault Refusal :=
  runHandler handlerIllegal (.illegal4B rest) s
/-- ILLEGAL_4C (rule R117). -/
def execIllegal4C (rest : BitVec 25) (s : State) : Host.Outcome State Fault Refusal :=
  runHandler handlerIllegal (.illegal4C rest) s
/-- ILLEGAL_4D (rule R117). -/
def execIllegal4D (rest : BitVec 25) (s : State) : Host.Outcome State Fault Refusal :=
  runHandler handlerIllegal (.illegal4D rest) s
/-- ILLEGAL_4E (rule R117). -/
def execIllegal4E (rest : BitVec 25) (s : State) : Host.Outcome State Fault Refusal :=
  runHandler handlerIllegal (.illegal4E rest) s
/-- ILLEGAL_4F (rule R117). -/
def execIllegal4F (rest : BitVec 25) (s : State) : Host.Outcome State Fault Refusal :=
  runHandler handlerIllegal (.illegal4F rest) s
/-- ILLEGAL_50 (rule R117). -/
def execIllegal50 (rest : BitVec 25) (s : State) : Host.Outcome State Fault Refusal :=
  runHandler handlerIllegal (.illegal50 rest) s
/-- ILLEGAL_51 (rule R117). -/
def execIllegal51 (rest : BitVec 25) (s : State) : Host.Outcome State Fault Refusal :=
  runHandler handlerIllegal (.illegal51 rest) s
/-- ILLEGAL_52 (rule R117). -/
def execIllegal52 (rest : BitVec 25) (s : State) : Host.Outcome State Fault Refusal :=
  runHandler handlerIllegal (.illegal52 rest) s
/-- ILLEGAL_53 (rule R117). -/
def execIllegal53 (rest : BitVec 25) (s : State) : Host.Outcome State Fault Refusal :=
  runHandler handlerIllegal (.illegal53 rest) s
/-- ILLEGAL_54 (rule R117). -/
def execIllegal54 (rest : BitVec 25) (s : State) : Host.Outcome State Fault Refusal :=
  runHandler handlerIllegal (.illegal54 rest) s
/-- ILLEGAL_55 (rule R117). -/
def execIllegal55 (rest : BitVec 25) (s : State) : Host.Outcome State Fault Refusal :=
  runHandler handlerIllegal (.illegal55 rest) s
/-- ILLEGAL_56 (rule R117). -/
def execIllegal56 (rest : BitVec 25) (s : State) : Host.Outcome State Fault Refusal :=
  runHandler handlerIllegal (.illegal56 rest) s
/-- ILLEGAL_57 (rule R117). -/
def execIllegal57 (rest : BitVec 25) (s : State) : Host.Outcome State Fault Refusal :=
  runHandler handlerIllegal (.illegal57 rest) s
/-- ILLEGAL_58 (rule R117). -/
def execIllegal58 (rest : BitVec 25) (s : State) : Host.Outcome State Fault Refusal :=
  runHandler handlerIllegal (.illegal58 rest) s
/-- ILLEGAL_59 (rule R117). -/
def execIllegal59 (rest : BitVec 25) (s : State) : Host.Outcome State Fault Refusal :=
  runHandler handlerIllegal (.illegal59 rest) s
/-- ILLEGAL_5A (rule R117). -/
def execIllegal5A (rest : BitVec 25) (s : State) : Host.Outcome State Fault Refusal :=
  runHandler handlerIllegal (.illegal5A rest) s
/-- ILLEGAL_5B (rule R117). -/
def execIllegal5B (rest : BitVec 25) (s : State) : Host.Outcome State Fault Refusal :=
  runHandler handlerIllegal (.illegal5B rest) s
/-- ILLEGAL_5C (rule R117). -/
def execIllegal5C (rest : BitVec 25) (s : State) : Host.Outcome State Fault Refusal :=
  runHandler handlerIllegal (.illegal5C rest) s
/-- ILLEGAL_5D (rule R117). -/
def execIllegal5D (rest : BitVec 25) (s : State) : Host.Outcome State Fault Refusal :=
  runHandler handlerIllegal (.illegal5D rest) s
/-- ILLEGAL_5E (rule R117). -/
def execIllegal5E (rest : BitVec 25) (s : State) : Host.Outcome State Fault Refusal :=
  runHandler handlerIllegal (.illegal5E rest) s
/-- ILLEGAL_5F (rule R117). -/
def execIllegal5F (rest : BitVec 25) (s : State) : Host.Outcome State Fault Refusal :=
  runHandler handlerIllegal (.illegal5F rest) s
/-- ILLEGAL_60 (rule R117). -/
def execIllegal60 (rest : BitVec 25) (s : State) : Host.Outcome State Fault Refusal :=
  runHandler handlerIllegal (.illegal60 rest) s
/-- ILLEGAL_61 (rule R117). -/
def execIllegal61 (rest : BitVec 25) (s : State) : Host.Outcome State Fault Refusal :=
  runHandler handlerIllegal (.illegal61 rest) s
/-- ILLEGAL_62 (rule R117). -/
def execIllegal62 (rest : BitVec 25) (s : State) : Host.Outcome State Fault Refusal :=
  runHandler handlerIllegal (.illegal62 rest) s
/-- ILLEGAL_64 (rule R117). -/
def execIllegal64 (rest : BitVec 25) (s : State) : Host.Outcome State Fault Refusal :=
  runHandler handlerIllegal (.illegal64 rest) s
/-- ILLEGAL_65 (rule R117). -/
def execIllegal65 (rest : BitVec 25) (s : State) : Host.Outcome State Fault Refusal :=
  runHandler handlerIllegal (.illegal65 rest) s
/-- ILLEGAL_66 (rule R117). -/
def execIllegal66 (rest : BitVec 25) (s : State) : Host.Outcome State Fault Refusal :=
  runHandler handlerIllegal (.illegal66 rest) s
/-- ILLEGAL_68 (rule R117). -/
def execIllegal68 (rest : BitVec 25) (s : State) : Host.Outcome State Fault Refusal :=
  runHandler handlerIllegal (.illegal68 rest) s
/-- ILLEGAL_69 (rule R117). -/
def execIllegal69 (rest : BitVec 25) (s : State) : Host.Outcome State Fault Refusal :=
  runHandler handlerIllegal (.illegal69 rest) s
/-- ILLEGAL_6A (rule R117). -/
def execIllegal6A (rest : BitVec 25) (s : State) : Host.Outcome State Fault Refusal :=
  runHandler handlerIllegal (.illegal6A rest) s
/-- ILLEGAL_6B (rule R117). -/
def execIllegal6B (rest : BitVec 25) (s : State) : Host.Outcome State Fault Refusal :=
  runHandler handlerIllegal (.illegal6B rest) s
/-- ILLEGAL_6C (rule R117). -/
def execIllegal6C (rest : BitVec 25) (s : State) : Host.Outcome State Fault Refusal :=
  runHandler handlerIllegal (.illegal6C rest) s
/-- ILLEGAL_6D (rule R117). -/
def execIllegal6D (rest : BitVec 25) (s : State) : Host.Outcome State Fault Refusal :=
  runHandler handlerIllegal (.illegal6D rest) s
/-- ILLEGAL_6E (rule R117). -/
def execIllegal6E (rest : BitVec 25) (s : State) : Host.Outcome State Fault Refusal :=
  runHandler handlerIllegal (.illegal6E rest) s
/-- ILLEGAL_70 (rule R117). -/
def execIllegal70 (rest : BitVec 25) (s : State) : Host.Outcome State Fault Refusal :=
  runHandler handlerIllegal (.illegal70 rest) s
/-- ILLEGAL_71 (rule R117). -/
def execIllegal71 (rest : BitVec 25) (s : State) : Host.Outcome State Fault Refusal :=
  runHandler handlerIllegal (.illegal71 rest) s
/-- ILLEGAL_72 (rule R117). -/
def execIllegal72 (rest : BitVec 25) (s : State) : Host.Outcome State Fault Refusal :=
  runHandler handlerIllegal (.illegal72 rest) s
/-- ILLEGAL_74 (rule R117). -/
def execIllegal74 (rest : BitVec 25) (s : State) : Host.Outcome State Fault Refusal :=
  runHandler handlerIllegal (.illegal74 rest) s
/-- ILLEGAL_75 (rule R117). -/
def execIllegal75 (rest : BitVec 25) (s : State) : Host.Outcome State Fault Refusal :=
  runHandler handlerIllegal (.illegal75 rest) s
/-- ILLEGAL_76 (rule R117). -/
def execIllegal76 (rest : BitVec 25) (s : State) : Host.Outcome State Fault Refusal :=
  runHandler handlerIllegal (.illegal76 rest) s
/-- ILLEGAL_77 (rule R117). -/
def execIllegal77 (rest : BitVec 25) (s : State) : Host.Outcome State Fault Refusal :=
  runHandler handlerIllegal (.illegal77 rest) s
/-- ILLEGAL_78 (rule R117). -/
def execIllegal78 (rest : BitVec 25) (s : State) : Host.Outcome State Fault Refusal :=
  runHandler handlerIllegal (.illegal78 rest) s
/-- ILLEGAL_79 (rule R117). -/
def execIllegal79 (rest : BitVec 25) (s : State) : Host.Outcome State Fault Refusal :=
  runHandler handlerIllegal (.illegal79 rest) s
/-- ILLEGAL_7A (rule R117). -/
def execIllegal7A (rest : BitVec 25) (s : State) : Host.Outcome State Fault Refusal :=
  runHandler handlerIllegal (.illegal7A rest) s
/-- ILLEGAL_7B (rule R117). -/
def execIllegal7B (rest : BitVec 25) (s : State) : Host.Outcome State Fault Refusal :=
  runHandler handlerIllegal (.illegal7B rest) s
/-- ILLEGAL_7C (rule R117). -/
def execIllegal7C (rest : BitVec 25) (s : State) : Host.Outcome State Fault Refusal :=
  runHandler handlerIllegal (.illegal7C rest) s
/-- ILLEGAL_7D (rule R117). -/
def execIllegal7D (rest : BitVec 25) (s : State) : Host.Outcome State Fault Refusal :=
  runHandler handlerIllegal (.illegal7D rest) s
/-- ILLEGAL_7E (rule R117). -/
def execIllegal7E (rest : BitVec 25) (s : State) : Host.Outcome State Fault Refusal :=
  runHandler handlerIllegal (.illegal7E rest) s
/-- ILLEGAL_7F (rule R117). -/
def execIllegal7F (rest : BitVec 25) (s : State) : Host.Outcome State Fault Refusal :=
  runHandler handlerIllegal (.illegal7F rest) s

/-- The opcode and the other 25 bits of an ILLEGAL row; none for the rows of recognised opcodes. -/
def illegalRow : Instr → Option (BitVec 7 × BitVec 25)
  | .lui _ _ => none
  | .auipc _ _ => none
  | .jal _ _ => none
  | .jalr _ _ _ _ => none
  | .branch _ _ _ _ => none
  | .load _ _ _ _ => none
  | .store _ _ _ _ => none
  | .opImmF0 _ _ _ => none
  | .opImmF1 _ _ _ => none
  | .opImmF2 _ _ _ => none
  | .opImmF3 _ _ _ => none
  | .opImmF4 _ _ _ => none
  | .opImmF5 _ _ _ => none
  | .opImmF6 _ _ _ => none
  | .opImmF7 _ _ _ => none
  | .op _ _ _ _ _ _ => none
  | .miscMem _ _ _ _ => none
  | .system _ _ _ _ => none
  | .illegal00 rest => some (0x00#7, rest)
  | .illegal01 rest => some (0x01#7, rest)
  | .illegal02 rest => some (0x02#7, rest)
  | .illegal04 rest => some (0x04#7, rest)
  | .illegal05 rest => some (0x05#7, rest)
  | .illegal06 rest => some (0x06#7, rest)
  | .illegal07 rest => some (0x07#7, rest)
  | .illegal08 rest => some (0x08#7, rest)
  | .illegal09 rest => some (0x09#7, rest)
  | .illegal0A rest => some (0x0a#7, rest)
  | .illegal0B rest => some (0x0b#7, rest)
  | .illegal0C rest => some (0x0c#7, rest)
  | .illegal0D rest => some (0x0d#7, rest)
  | .illegal0E rest => some (0x0e#7, rest)
  | .illegal10 rest => some (0x10#7, rest)
  | .illegal11 rest => some (0x11#7, rest)
  | .illegal12 rest => some (0x12#7, rest)
  | .illegal14 rest => some (0x14#7, rest)
  | .illegal15 rest => some (0x15#7, rest)
  | .illegal16 rest => some (0x16#7, rest)
  | .illegal18 rest => some (0x18#7, rest)
  | .illegal19 rest => some (0x19#7, rest)
  | .illegal1A rest => some (0x1a#7, rest)
  | .illegal1B rest => some (0x1b#7, rest)
  | .illegal1C rest => some (0x1c#7, rest)
  | .illegal1D rest => some (0x1d#7, rest)
  | .illegal1E rest => some (0x1e#7, rest)
  | .illegal1F rest => some (0x1f#7, rest)
  | .illegal20 rest => some (0x20#7, rest)
  | .illegal21 rest => some (0x21#7, rest)
  | .illegal22 rest => some (0x22#7, rest)
  | .illegal24 rest => some (0x24#7, rest)
  | .illegal25 rest => some (0x25#7, rest)
  | .illegal26 rest => some (0x26#7, rest)
  | .illegal27 rest => some (0x27#7, rest)
  | .illegal28 rest => some (0x28#7, rest)
  | .illegal29 rest => some (0x29#7, rest)
  | .illegal2A rest => some (0x2a#7, rest)
  | .illegal2B rest => some (0x2b#7, rest)
  | .illegal2C rest => some (0x2c#7, rest)
  | .illegal2D rest => some (0x2d#7, rest)
  | .illegal2E rest => some (0x2e#7, rest)
  | .illegal2F rest => some (0x2f#7, rest)
  | .illegal30 rest => some (0x30#7, rest)
  | .illegal31 rest => some (0x31#7, rest)
  | .illegal32 rest => some (0x32#7, rest)
  | .illegal34 rest => some (0x34#7, rest)
  | .illegal35 rest => some (0x35#7, rest)
  | .illegal36 rest => some (0x36#7, rest)
  | .illegal38 rest => some (0x38#7, rest)
  | .illegal39 rest => some (0x39#7, rest)
  | .illegal3A rest => some (0x3a#7, rest)
  | .illegal3B rest => some (0x3b#7, rest)
  | .illegal3C rest => some (0x3c#7, rest)
  | .illegal3D rest => some (0x3d#7, rest)
  | .illegal3E rest => some (0x3e#7, rest)
  | .illegal3F rest => some (0x3f#7, rest)
  | .illegal40 rest => some (0x40#7, rest)
  | .illegal41 rest => some (0x41#7, rest)
  | .illegal42 rest => some (0x42#7, rest)
  | .illegal43 rest => some (0x43#7, rest)
  | .illegal44 rest => some (0x44#7, rest)
  | .illegal45 rest => some (0x45#7, rest)
  | .illegal46 rest => some (0x46#7, rest)
  | .illegal47 rest => some (0x47#7, rest)
  | .illegal48 rest => some (0x48#7, rest)
  | .illegal49 rest => some (0x49#7, rest)
  | .illegal4A rest => some (0x4a#7, rest)
  | .illegal4B rest => some (0x4b#7, rest)
  | .illegal4C rest => some (0x4c#7, rest)
  | .illegal4D rest => some (0x4d#7, rest)
  | .illegal4E rest => some (0x4e#7, rest)
  | .illegal4F rest => some (0x4f#7, rest)
  | .illegal50 rest => some (0x50#7, rest)
  | .illegal51 rest => some (0x51#7, rest)
  | .illegal52 rest => some (0x52#7, rest)
  | .illegal53 rest => some (0x53#7, rest)
  | .illegal54 rest => some (0x54#7, rest)
  | .illegal55 rest => some (0x55#7, rest)
  | .illegal56 rest => some (0x56#7, rest)
  | .illegal57 rest => some (0x57#7, rest)
  | .illegal58 rest => some (0x58#7, rest)
  | .illegal59 rest => some (0x59#7, rest)
  | .illegal5A rest => some (0x5a#7, rest)
  | .illegal5B rest => some (0x5b#7, rest)
  | .illegal5C rest => some (0x5c#7, rest)
  | .illegal5D rest => some (0x5d#7, rest)
  | .illegal5E rest => some (0x5e#7, rest)
  | .illegal5F rest => some (0x5f#7, rest)
  | .illegal60 rest => some (0x60#7, rest)
  | .illegal61 rest => some (0x61#7, rest)
  | .illegal62 rest => some (0x62#7, rest)
  | .illegal64 rest => some (0x64#7, rest)
  | .illegal65 rest => some (0x65#7, rest)
  | .illegal66 rest => some (0x66#7, rest)
  | .illegal68 rest => some (0x68#7, rest)
  | .illegal69 rest => some (0x69#7, rest)
  | .illegal6A rest => some (0x6a#7, rest)
  | .illegal6B rest => some (0x6b#7, rest)
  | .illegal6C rest => some (0x6c#7, rest)
  | .illegal6D rest => some (0x6d#7, rest)
  | .illegal6E rest => some (0x6e#7, rest)
  | .illegal70 rest => some (0x70#7, rest)
  | .illegal71 rest => some (0x71#7, rest)
  | .illegal72 rest => some (0x72#7, rest)
  | .illegal74 rest => some (0x74#7, rest)
  | .illegal75 rest => some (0x75#7, rest)
  | .illegal76 rest => some (0x76#7, rest)
  | .illegal77 rest => some (0x77#7, rest)
  | .illegal78 rest => some (0x78#7, rest)
  | .illegal79 rest => some (0x79#7, rest)
  | .illegal7A rest => some (0x7a#7, rest)
  | .illegal7B rest => some (0x7b#7, rest)
  | .illegal7C rest => some (0x7c#7, rest)
  | .illegal7D rest => some (0x7d#7, rest)
  | .illegal7E rest => some (0x7e#7, rest)
  | .illegal7F rest => some (0x7f#7, rest)

end Sys2Proof.Machine
end

