-- ==== Sys2Proof/Machine/LoadStore.lean ====
section
/-! DEFINITION. The handlers and meanings of the load and store opcodes (file 43, rules R100 to R102).  Loads and stores are
classified, not performed (rule R30). -/

namespace Sys2Proof.Machine

/-- Rule R100. -/
def handlerLoad (f : RawFields) (m : Immediates) : Instruction where
  opcode := f.opcode
  rd := rawIndex f.rd
  rs1 := rawIndex f.rs1
  rs2 := sentImm
  rs3 := 0#6
  funct3 := f.funct3
  funct7 := f.funct7
  immd := m.immI_s
  op := .ADDI
  op2 := .LD

/-- Rule R101; the only handler that writes `rs3`, the register that holds the data. -/
def handlerStore (f : RawFields) (m : Immediates) : Instruction where
  opcode := f.opcode
  rd := 0#6
  rs1 := rawIndex f.rs1
  rs2 := sentImm
  rs3 := rawIndex f.rs2
  funct3 := f.funct3
  funct7 := f.funct7
  immd := m.immS_s
  op := .ADDI
  op2 := .ST

/-- LOAD (rule R100). -/
def execLoad (rd rs1 : BitVec 5) (funct3 : BitVec 3) (imm : BitVec 12) (s : State) :
    Host.Outcome State Fault Refusal :=
  runHandler handlerLoad (.load rd rs1 funct3 imm) s

/-- STORE (rule R101). -/
def execStore (rs1 rs2 : BitVec 5) (funct3 : BitVec 3) (imm : BitVec 12) (s : State) :
    Host.Outcome State Fault Refusal :=
  runHandler handlerStore (.store rs1 rs2 funct3 imm) s

end Sys2Proof.Machine
end

