-- ==== Sys2Proof/Machine/UpperJumpBranch.lean ====
section
/-! DEFINITION. The handlers and meanings of the upper-immediate, jump and branch opcodes (file 42, rules R90 to R95). -/

namespace Sys2Proof.Machine

/-- Rule R90; `rs1` carries word bits 19 to 15, which are immediate bits. -/
def handlerLui (f : RawFields) (m : Immediates) : Instruction where
  opcode := f.opcode
  rd := rawIndex f.rd
  rs1 := rawIndex f.rs1
  rs2 := sentImm
  rs3 := 0#6
  funct3 := f.funct3
  funct7 := f.funct7
  immd := m.immU_z
  op := .MOV
  op2 := .NOP

/-- Rule R91; the only handler that writes the program-counter sentinel. -/
def handlerAuipc (f : RawFields) (m : Immediates) : Instruction where
  opcode := f.opcode
  rd := rawIndex f.rd
  rs1 := sentPc
  rs2 := sentImm
  rs3 := 0#6
  funct3 := f.funct3
  funct7 := f.funct7
  immd := m.immU_z
  op := .ADDI
  op2 := .NOP

/-- Rule R92; `rs1` carries word bits 19 to 15, which are offset bits. -/
def handlerJal (f : RawFields) (m : Immediates) : Instruction where
  opcode := f.opcode
  rd := rawIndex f.rd
  rs1 := rawIndex f.rs1
  rs2 := sentPc4
  rs3 := 0#6
  funct3 := f.funct3
  funct7 := f.funct7
  immd := m.immJ_s
  op := .MOV
  op2 := .JMP

/-- Rule R93; the row's immediate source is "none" (conflict C3). -/
def handlerJalr (f : RawFields) (_m : Immediates) : Instruction where
  opcode := f.opcode
  rd := rawIndex f.rd
  rs1 := rawIndex f.rs1
  rs2 := sentPc4
  rs3 := 0#6
  funct3 := f.funct3
  funct7 := f.funct7
  immd := 0#32
  op := .MOV
  op2 := .JPR

/-- Rule R94. -/
def handlerBranch (f : RawFields) (m : Immediates) : Instruction where
  opcode := f.opcode
  rd := 0#6
  rs1 := rawIndex f.rs1
  rs2 := rawIndex f.rs2
  rs3 := 0#6
  funct3 := f.funct3
  funct7 := f.funct7
  immd := m.immB_s
  op := .CMP
  op2 := .JCC

/-- LUI (rule R90). -/
def execLui (rd : BitVec 5) (imm : BitVec 20) (s : State) : Host.Outcome State Fault Refusal :=
  runHandler handlerLui (.lui rd imm) s

/-- AUIPC (rule R91). -/
def execAuipc (rd : BitVec 5) (imm : BitVec 20) (s : State) : Host.Outcome State Fault Refusal :=
  runHandler handlerAuipc (.auipc rd imm) s

/-- JAL (rule R92). -/
def execJal (rd : BitVec 5) (offset : BitVec 21) (s : State) : Host.Outcome State Fault Refusal :=
  runHandler handlerJal (.jal rd offset) s

/-- JALR (rule R93). -/
def execJalr (rd rs1 : BitVec 5) (funct3 : BitVec 3) (imm : BitVec 12) (s : State) :
    Host.Outcome State Fault Refusal :=
  runHandler handlerJalr (.jalr rd rs1 funct3 imm) s

/-- BRANCH (rule R94). -/
def execBranch (rs1 rs2 : BitVec 5) (funct3 : BitVec 3) (offset : BitVec 13) (s : State) :
    Host.Outcome State Fault Refusal :=
  runHandler handlerBranch (.branch rs1 rs2 funct3 offset) s

end Sys2Proof.Machine
end

