-- ==== Sys2Proof/Machine/Decoder.lean ====
section
/-! DEFINITION. The block as the one total function of rule R2, from a word to its record, written flat from rule R50's selection;
its step on the unit state (rule R10) and the outputs that follow the input (rule R26); and which word bits reach an output
(rule R57). -/

namespace Sys2Proof.Machine

/-- The twelve handlers (rule R50, labels by decision D10). -/
inductive HandlerClass where
  | LUI | AUIPC | JAL | JALR | BRANCH | LOAD | STORE | OP_IMM | OP | MISC_MEM | SYSTEM | ILLEGAL
  deriving DecidableEq, Repr

/-- The dispatcher's selection: equality of all seven opcode bits with one of eleven values, else the default (rule R50). -/
def handlerClass (opc : BitVec 7) : HandlerClass :=
  if opc = 0x37#7 then .LUI
  else if opc = 0x17#7 then .AUIPC
  else if opc = 0x6f#7 then .JAL
  else if opc = 0x67#7 then .JALR
  else if opc = 0x63#7 then .BRANCH
  else if opc = 0x03#7 then .LOAD
  else if opc = 0x23#7 then .STORE
  else if opc = 0x13#7 then .OP_IMM
  else if opc = 0x33#7 then .OP
  else if opc = 0x0f#7 then .MISC_MEM
  else if opc = 0x73#7 then .SYSTEM
  else .ILLEGAL

/-- One of the eleven recognised opcodes (rules R5, R50). -/
def recognised (opc : BitVec 7) : Bool :=
  [0x37#7, 0x17#7, 0x6f#7, 0x67#7, 0x63#7, 0x03#7, 0x23#7, 0x13#7, 0x33#7, 0x0f#7, 0x73#7].contains opc

/-- The handler of a class. -/
def handlerOf : HandlerClass → RawFields → Immediates → Instruction
  | .LUI => handlerLui
  | .AUIPC => handlerAuipc
  | .JAL => handlerJal
  | .JALR => handlerJalr
  | .BRANCH => handlerBranch
  | .LOAD => handlerLoad
  | .STORE => handlerStore
  | .OP_IMM => handlerOpImm
  | .OP => handlerOp
  | .MISC_MEM => handlerMiscMem
  | .SYSTEM => handlerSystem
  | .ILLEGAL => handlerIllegal

/-- The block's `decode`: extractor, resolver, then the one selected handler (rules R2, R3, R52). -/
def decodeRecord (w : Word) : Instruction :=
  handlerOf (handlerClass (fOpcode w)) (extract w) (resolve w)

/-- The block alone: "a "step" of the block is the evaluation of `decode` on the word presented, and it changes nothing" (rule
R10). -/
def blockStep (held : BlockState) (w : Word) : BlockState × Instruction := (held, decodeRecord w)

/-- The caller puts word `w` on the input port (rules R11, R31).  No register stands between the ports (rule R155): the outputs are,
in the same instant, `decode` of the word now presented (rule R26). -/
def State.present (s : State) (w : Word) : State := { s with word := w, out := (blockStep s.held w).2 }

/-- The word bits that reach some output, by class (rule R57 with conflicts C7 and C8): the mask has a 1 at each. -/
def liveBits (w : Word) : Word :=
  match handlerClass (fOpcode w) with
  | .OP => 0x7FFFFFFF#32
  | .OP_IMM => if fFunct3 w = 1#3 ∨ fFunct3 w = 5#3 then 0x7FFFFFFF#32 else 0xFFFFFFFF#32
  | .JALR => 0x7E0FFFFF#32
  | .MISC_MEM => 0xFFFFF07F#32
  | .SYSTEM => 0xFFFFF07F#32
  | .ILLEGAL => 0x7E00707F#32
  | .LUI => 0xFFFFFFFF#32
  | .AUIPC => 0xFFFFFFFF#32
  | .JAL => 0xFFFFFFFF#32
  | .BRANCH => 0xFFFFFFFF#32
  | .LOAD => 0xFFFFFFFF#32
  | .STORE => 0xFFFFFFFF#32

end Sys2Proof.Machine
end

