-- ==== Sys2Proof/Machine/Dispatch.lean ====
section
/-! DEFINITION. One arm per constructor of Instr, each one call of that instruction's meaning. -/

namespace Sys2Proof.Machine

def exec (i : Instr) (s : State) : Host.Outcome State Fault Refusal :=
  match i with
  | .lui rd imm => Sys2Proof.Machine.execLui rd imm s
  | .auipc rd imm => Sys2Proof.Machine.execAuipc rd imm s
  | .jal rd offset => Sys2Proof.Machine.execJal rd offset s
  | .jalr rd rs1 funct3 imm => Sys2Proof.Machine.execJalr rd rs1 funct3 imm s
  | .branch rs1 rs2 funct3 offset => Sys2Proof.Machine.execBranch rs1 rs2 funct3 offset s
  | .load rd rs1 funct3 imm => Sys2Proof.Machine.execLoad rd rs1 funct3 imm s
  | .store rs1 rs2 funct3 imm => Sys2Proof.Machine.execStore rs1 rs2 funct3 imm s
  | .opImmF0 rd rs1 imm => Sys2Proof.Machine.execOpImmF0 rd rs1 imm s
  | .opImmF1 rd rs1 imm => Sys2Proof.Machine.execOpImmF1 rd rs1 imm s
  | .opImmF2 rd rs1 imm => Sys2Proof.Machine.execOpImmF2 rd rs1 imm s
  | .opImmF3 rd rs1 imm => Sys2Proof.Machine.execOpImmF3 rd rs1 imm s
  | .opImmF4 rd rs1 imm => Sys2Proof.Machine.execOpImmF4 rd rs1 imm s
  | .opImmF5 rd rs1 imm => Sys2Proof.Machine.execOpImmF5 rd rs1 imm s
  | .opImmF6 rd rs1 imm => Sys2Proof.Machine.execOpImmF6 rd rs1 imm s
  | .opImmF7 rd rs1 imm => Sys2Proof.Machine.execOpImmF7 rd rs1 imm s
  | .op rd rs1 rs2 funct3 funct7 top => Sys2Proof.Machine.execOp rd rs1 rs2 funct3 funct7 top s
  | .miscMem dest rs1 funct3 imm => Sys2Proof.Machine.execMiscMem dest rs1 funct3 imm s
  | .system dest rs1 funct3 imm => Sys2Proof.Machine.execSystem dest rs1 funct3 imm s
  | .illegal00 rest => Sys2Proof.Machine.execIllegal00 rest s
  | .illegal01 rest => Sys2Proof.Machine.execIllegal01 rest s
  | .illegal02 rest => Sys2Proof.Machine.execIllegal02 rest s
  | .illegal04 rest => Sys2Proof.Machine.execIllegal04 rest s
  | .illegal05 rest => Sys2Proof.Machine.execIllegal05 rest s
  | .illegal06 rest => Sys2Proof.Machine.execIllegal06 rest s
  | .illegal07 rest => Sys2Proof.Machine.execIllegal07 rest s
  | .illegal08 rest => Sys2Proof.Machine.execIllegal08 rest s
  | .illegal09 rest => Sys2Proof.Machine.execIllegal09 rest s
  | .illegal0A rest => Sys2Proof.Machine.execIllegal0A rest s
  | .illegal0B rest => Sys2Proof.Machine.execIllegal0B rest s
  | .illegal0C rest => Sys2Proof.Machine.execIllegal0C rest s
  | .illegal0D rest => Sys2Proof.Machine.execIllegal0D rest s
  | .illegal0E rest => Sys2Proof.Machine.execIllegal0E rest s
  | .illegal10 rest => Sys2Proof.Machine.execIllegal10 rest s
  | .illegal11 rest => Sys2Proof.Machine.execIllegal11 rest s
  | .illegal12 rest => Sys2Proof.Machine.execIllegal12 rest s
  | .illegal14 rest => Sys2Proof.Machine.execIllegal14 rest s
  | .illegal15 rest => Sys2Proof.Machine.execIllegal15 rest s
  | .illegal16 rest => Sys2Proof.Machine.execIllegal16 rest s
  | .illegal18 rest => Sys2Proof.Machine.execIllegal18 rest s
  | .illegal19 rest => Sys2Proof.Machine.execIllegal19 rest s
  | .illegal1A rest => Sys2Proof.Machine.execIllegal1A rest s
  | .illegal1B rest => Sys2Proof.Machine.execIllegal1B rest s
  | .illegal1C rest => Sys2Proof.Machine.execIllegal1C rest s
  | .illegal1D rest => Sys2Proof.Machine.execIllegal1D rest s
  | .illegal1E rest => Sys2Proof.Machine.execIllegal1E rest s
  | .illegal1F rest => Sys2Proof.Machine.execIllegal1F rest s
  | .illegal20 rest => Sys2Proof.Machine.execIllegal20 rest s
  | .illegal21 rest => Sys2Proof.Machine.execIllegal21 rest s
  | .illegal22 rest => Sys2Proof.Machine.execIllegal22 rest s
  | .illegal24 rest => Sys2Proof.Machine.execIllegal24 rest s
  | .illegal25 rest => Sys2Proof.Machine.execIllegal25 rest s
  | .illegal26 rest => Sys2Proof.Machine.execIllegal26 rest s
  | .illegal27 rest => Sys2Proof.Machine.execIllegal27 rest s
  | .illegal28 rest => Sys2Proof.Machine.execIllegal28 rest s
  | .illegal29 rest => Sys2Proof.Machine.execIllegal29 rest s
  | .illegal2A rest => Sys2Proof.Machine.execIllegal2A rest s
  | .illegal2B rest => Sys2Proof.Machine.execIllegal2B rest s
  | .illegal2C rest => Sys2Proof.Machine.execIllegal2C rest s
  | .illegal2D rest => Sys2Proof.Machine.execIllegal2D rest s
  | .illegal2E rest => Sys2Proof.Machine.execIllegal2E rest s
  | .illegal2F rest => Sys2Proof.Machine.execIllegal2F rest s
  | .illegal30 rest => Sys2Proof.Machine.execIllegal30 rest s
  | .illegal31 rest => Sys2Proof.Machine.execIllegal31 rest s
  | .illegal32 rest => Sys2Proof.Machine.execIllegal32 rest s
  | .illegal34 rest => Sys2Proof.Machine.execIllegal34 rest s
  | .illegal35 rest => Sys2Proof.Machine.execIllegal35 rest s
  | .illegal36 rest => Sys2Proof.Machine.execIllegal36 rest s
  | .illegal38 rest => Sys2Proof.Machine.execIllegal38 rest s
  | .illegal39 rest => Sys2Proof.Machine.execIllegal39 rest s
  | .illegal3A rest => Sys2Proof.Machine.execIllegal3A rest s
  | .illegal3B rest => Sys2Proof.Machine.execIllegal3B rest s
  | .illegal3C rest => Sys2Proof.Machine.execIllegal3C rest s
  | .illegal3D rest => Sys2Proof.Machine.execIllegal3D rest s
  | .illegal3E rest => Sys2Proof.Machine.execIllegal3E rest s
  | .illegal3F rest => Sys2Proof.Machine.execIllegal3F rest s
  | .illegal40 rest => Sys2Proof.Machine.execIllegal40 rest s
  | .illegal41 rest => Sys2Proof.Machine.execIllegal41 rest s
  | .illegal42 rest => Sys2Proof.Machine.execIllegal42 rest s
  | .illegal43 rest => Sys2Proof.Machine.execIllegal43 rest s
  | .illegal44 rest => Sys2Proof.Machine.execIllegal44 rest s
  | .illegal45 rest => Sys2Proof.Machine.execIllegal45 rest s
  | .illegal46 rest => Sys2Proof.Machine.execIllegal46 rest s
  | .illegal47 rest => Sys2Proof.Machine.execIllegal47 rest s
  | .illegal48 rest => Sys2Proof.Machine.execIllegal48 rest s
  | .illegal49 rest => Sys2Proof.Machine.execIllegal49 rest s
  | .illegal4A rest => Sys2Proof.Machine.execIllegal4A rest s
  | .illegal4B rest => Sys2Proof.Machine.execIllegal4B rest s
  | .illegal4C rest => Sys2Proof.Machine.execIllegal4C rest s
  | .illegal4D rest => Sys2Proof.Machine.execIllegal4D rest s
  | .illegal4E rest => Sys2Proof.Machine.execIllegal4E rest s
  | .illegal4F rest => Sys2Proof.Machine.execIllegal4F rest s
  | .illegal50 rest => Sys2Proof.Machine.execIllegal50 rest s
  | .illegal51 rest => Sys2Proof.Machine.execIllegal51 rest s
  | .illegal52 rest => Sys2Proof.Machine.execIllegal52 rest s
  | .illegal53 rest => Sys2Proof.Machine.execIllegal53 rest s
  | .illegal54 rest => Sys2Proof.Machine.execIllegal54 rest s
  | .illegal55 rest => Sys2Proof.Machine.execIllegal55 rest s
  | .illegal56 rest => Sys2Proof.Machine.execIllegal56 rest s
  | .illegal57 rest => Sys2Proof.Machine.execIllegal57 rest s
  | .illegal58 rest => Sys2Proof.Machine.execIllegal58 rest s
  | .illegal59 rest => Sys2Proof.Machine.execIllegal59 rest s
  | .illegal5A rest => Sys2Proof.Machine.execIllegal5A rest s
  | .illegal5B rest => Sys2Proof.Machine.execIllegal5B rest s
  | .illegal5C rest => Sys2Proof.Machine.execIllegal5C rest s
  | .illegal5D rest => Sys2Proof.Machine.execIllegal5D rest s
  | .illegal5E rest => Sys2Proof.Machine.execIllegal5E rest s
  | .illegal5F rest => Sys2Proof.Machine.execIllegal5F rest s
  | .illegal60 rest => Sys2Proof.Machine.execIllegal60 rest s
  | .illegal61 rest => Sys2Proof.Machine.execIllegal61 rest s
  | .illegal62 rest => Sys2Proof.Machine.execIllegal62 rest s
  | .illegal64 rest => Sys2Proof.Machine.execIllegal64 rest s
  | .illegal65 rest => Sys2Proof.Machine.execIllegal65 rest s
  | .illegal66 rest => Sys2Proof.Machine.execIllegal66 rest s
  | .illegal68 rest => Sys2Proof.Machine.execIllegal68 rest s
  | .illegal69 rest => Sys2Proof.Machine.execIllegal69 rest s
  | .illegal6A rest => Sys2Proof.Machine.execIllegal6A rest s
  | .illegal6B rest => Sys2Proof.Machine.execIllegal6B rest s
  | .illegal6C rest => Sys2Proof.Machine.execIllegal6C rest s
  | .illegal6D rest => Sys2Proof.Machine.execIllegal6D rest s
  | .illegal6E rest => Sys2Proof.Machine.execIllegal6E rest s
  | .illegal70 rest => Sys2Proof.Machine.execIllegal70 rest s
  | .illegal71 rest => Sys2Proof.Machine.execIllegal71 rest s
  | .illegal72 rest => Sys2Proof.Machine.execIllegal72 rest s
  | .illegal74 rest => Sys2Proof.Machine.execIllegal74 rest s
  | .illegal75 rest => Sys2Proof.Machine.execIllegal75 rest s
  | .illegal76 rest => Sys2Proof.Machine.execIllegal76 rest s
  | .illegal77 rest => Sys2Proof.Machine.execIllegal77 rest s
  | .illegal78 rest => Sys2Proof.Machine.execIllegal78 rest s
  | .illegal79 rest => Sys2Proof.Machine.execIllegal79 rest s
  | .illegal7A rest => Sys2Proof.Machine.execIllegal7A rest s
  | .illegal7B rest => Sys2Proof.Machine.execIllegal7B rest s
  | .illegal7C rest => Sys2Proof.Machine.execIllegal7C rest s
  | .illegal7D rest => Sys2Proof.Machine.execIllegal7D rest s
  | .illegal7E rest => Sys2Proof.Machine.execIllegal7E rest s
  | .illegal7F rest => Sys2Proof.Machine.execIllegal7F rest s

end Sys2Proof.Machine
end

