-- ==== Sys2Proof/Machine/Step.lean ====
section
/-! DEFINITION. One step is one evaluation of the block on the word presented (rule R10).  Since the outputs follow the input at every
instant (rule R26), it changes nothing; from a state whose outputs are not its word's record, which is no instant of the block (log
entry 1), it gives that record.  The block fetches nothing (rules R25, R30): the word at the input stays until the caller presents
another (log entry 3). -/

namespace Sys2Proof.Machine

/-- The word on the input port, decoded to its instruction and given its meaning. -/
def step (s : State) : Host.Outcome State Fault Refusal := exec (decodeInstr s.word) s

/-- The caller presents the instruction whose bits are `w`, `nbits` of them, the bits above zero; the outputs follow (rule R26). -/
def State.withFetchWord (s : State) (nbits w : Nat) : State := s.present (BitVec.ofNat 32 (w % 2 ^ nbits))

end Sys2Proof.Machine
end

