-- ==== Sys2Proof/Machine/Ports.lean ====
section
/-! DEFINITION. The record on the ten output ports as bits (rule R12, decision D2).  The operation codes have no numbers of their
own: the encoding is the parameter `OpEnc`, and `opEncDefault` is the spec's choice of it (rule R17, decision D3). -/

namespace Sys2Proof.Machine

/-- The ten output ports and their widths (rule R12). -/
structure Ports where
  opcode_o : BitVec 7
  rd_o : BitVec 6
  rs1_o : BitVec 6
  rs2_o : BitVec 6
  rs3_o : BitVec 6
  funct3_o : BitVec 3
  funct7_o : BitVec 6
  immd_o : BitVec 32
  op_o : BitVec 4
  op2_o : BitVec 4
  deriving DecidableEq, Repr

/-- The default `OpEnc`: the source's listing order (rule R17, decision D3). -/
def opEncDefault : OpCode → BitVec 4
  | .MOV => 0#4
  | .ADDI => 1#4
  | .ALU => 2#4
  | .CMP => 3#4
  | .LD => 4#4
  | .ST => 5#4
  | .JMP => 6#4
  | .JPR => 7#4
  | .JCC => 8#4
  | .SPC => 9#4
  | .NOP => 10#4
  | .EXP => 11#4

/-- The record as the ports show it under an operation-code encoding. -/
def Instruction.ports (opEnc : OpCode → BitVec 4) (r : Instruction) : Ports where
  opcode_o := r.opcode
  rd_o := r.rd
  rs1_o := r.rs1
  rs2_o := r.rs2
  rs3_o := r.rs3
  funct3_o := r.funct3
  funct7_o := r.funct7
  immd_o := r.immd
  op_o := opEnc r.op
  op2_o := opEnc r.op2

end Sys2Proof.Machine
end

