-- ==== Sys2Proof/Safety.lean ====
section
/-! DEFINITION. The terms claims use: outputs that are the record of the word on the input, the instants of the block, records in the
ranges the spec gives, a record written in the spec's order of fields, and the records of a stream of words. -/

namespace Sys2Proof.Machine

/-- The outputs are the record of the word now presented (rules R26, R151). -/
def Settled (s : State) : Prop := s.out = decodeRecord s.word

/-- The instants of the block: the state the model starts from (log entry 2), and from any instant the one after a word is presented
or a step is taken. -/
inductive Instant : State → Prop where
  | reset : Instant State.reset
  | present {s : State} (w : Word) : Instant s → Instant (s.present w)
  | step {s t : State} : Instant s → Machine.step s = .next t → Instant t

/-- An index port that can only carry a raw index, 0 to 31. -/
abbrev IsRawIndex (x : BitVec 6) : Prop := x.toNat < 32

/-- Every field of the record in the range of rule R12's table. -/
structure LegalRecord (r : Instruction) : Prop where
  rd : IsRawIndex r.rd
  rs1 : IsRawIndex r.rs1 ∨ r.rs1 = sentPc
  rs2 : IsRawIndex r.rs2 ∨ r.rs2 = sentImm ∨ r.rs2 = sentPc4
  rs3 : IsRawIndex r.rs3
  op : r.op ∈ [OpCode.MOV, .ADDI, .ALU, .CMP, .NOP]
  op2 : r.op2 ∈ [OpCode.NOP, .JMP, .JPR, .JCC, .LD, .ST, .SPC, .EXP]

/-- A record written as `95_test_vectors.md` writes it, its ten fields in rule R12's order of that file. -/
def record (opcode rd rs1 rs2 rs3 funct3 funct7 immd : Nat) (op op2 : OpCode) : Instruction where
  opcode := BitVec.ofNat 7 opcode
  rd := BitVec.ofNat 6 rd
  rs1 := BitVec.ofNat 6 rs1
  rs2 := BitVec.ofNat 6 rs2
  rs3 := BitVec.ofNat 6 rs3
  funct3 := BitVec.ofNat 3 funct3
  funct7 := BitVec.ofNat 6 funct7
  immd := BitVec.ofNat 32 immd
  op := op
  op2 := op2

/-- The records the block gives when the caller presents the words one after another, from state `s`. -/
def recordsOf (s : State) : List Word → List Instruction
  | [] => []
  | w :: ws =>
    match step (s.present w) with
    | .next t => t.out :: recordsOf t ws
    | .fault _ => []
    | .refused _ => []

end Sys2Proof.Machine
end

