-- ==== Sys2Proof/Certificates/Slice0/Obligations.lean ====
section
/-! DEFINITION. The statements for the provers.  Each one's docstring names the rules of spec/ it formalises. -/

open Sys2Proof Sys2Proof.Machine

/-- Rule R10's step: the word presented is decoded and evaluated.  That the word stays on the input is log entry 3. -/
def Obligations.StepRunsDecodedInstruction : Prop :=
  (∀ s : State, step s = exec (decodeInstr s.word) s) ∧
  (∀ (i : Instr) (s : State), i.wellFormed = true →
    step (s.present (encode i)) = exec i { word := encode i, out := decodeRecord (encode i) }) ∧
  (∀ (i : Instr) (s : State), i.wellFormed = true →
    step (s.withFetchWord 32 (encode i).toNat) = exec i { word := encode i, out := decodeRecord (encode i) })

/-- Words of the examples of rules R90 to R117, their operands read from the format tables of rule R41. -/
def Obligations.SpecWordsDecodeToTheirInstruction : Prop :=
  (∀ p ∈ [(0x123452B7#32, Instr.lui 5 0x12345), (0xFFFFF517#32, .auipc 10 0xFFFFF), (0xFFDFF06F#32, .jal 0 0x1FFFFC),
      (0xFFC280E7#32, .jalr 1 5 0 0xFFC), (0xFE031CE3#32, .branch 6 0 1 0x1FF8), (0x00812283#32, .load 5 2 2 8),
      (0x00612623#32, .store 2 6 2 12), (0xFFF10093#32, .opImmF0 1 2 0xFFF), (0x4011D113#32, .opImmF5 2 3 0x401),
      (0x402081B3#32, .op 3 1 2 0 0x20 0), (0x0FF3028F#32, .miscMem 5 6 0 0x0FF), (0x300312F3#32, .system 5 6 1 0x300),
      (0x005323AF#32, .illegal2F 0x00A647)],
    decodeInstr p.1 = p.2)

/-- The encoder and the decoder, both written from rule R41's format tables, agree on all 135 rows. -/
def Obligations.DecodeOfEncodeIsTheInstruction : Prop :=
  ∀ i : Instr, i.wellFormed = true → decodeInstr (encode i) = i

/-- Totality of decoding (rules R2, R53) in its strong form: the instruction determines the word. -/
def Obligations.EveryWordIsAWellFormedInstruction : Prop :=
  ∀ w : Word, (decodeInstr w).wellFormed = true ∧ encode (decodeInstr w) = w

/-- Rule R50, selection and partition. -/
def Obligations.ExactlyOneHandlerRunsPerWord : Prop :=
  ∀ w : Word,
    [fOpcode w == 0x37#7, fOpcode w == 0x17#7, fOpcode w == 0x6f#7, fOpcode w == 0x67#7, fOpcode w == 0x63#7,
      fOpcode w == 0x03#7, fOpcode w == 0x23#7, fOpcode w == 0x13#7, fOpcode w == 0x33#7, fOpcode w == 0x0f#7,
      fOpcode w == 0x73#7, !recognised (fOpcode w)].count true = 1 ∧
    (fOpcode w = 0x37#7 → decodeRecord w = handlerLui (extract w) (resolve w)) ∧
    (fOpcode w = 0x17#7 → decodeRecord w = handlerAuipc (extract w) (resolve w)) ∧
    (fOpcode w = 0x6f#7 → decodeRecord w = handlerJal (extract w) (resolve w)) ∧
    (fOpcode w = 0x67#7 → decodeRecord w = handlerJalr (extract w) (resolve w)) ∧
    (fOpcode w = 0x63#7 → decodeRecord w = handlerBranch (extract w) (resolve w)) ∧
    (fOpcode w = 0x03#7 → decodeRecord w = handlerLoad (extract w) (resolve w)) ∧
    (fOpcode w = 0x23#7 → decodeRecord w = handlerStore (extract w) (resolve w)) ∧
    (fOpcode w = 0x13#7 → decodeRecord w = handlerOpImm (extract w) (resolve w)) ∧
    (fOpcode w = 0x33#7 → decodeRecord w = handlerOp (extract w) (resolve w)) ∧
    (fOpcode w = 0x0f#7 → decodeRecord w = handlerMiscMem (extract w) (resolve w)) ∧
    (fOpcode w = 0x73#7 → decodeRecord w = handlerSystem (extract w) (resolve w)) ∧
    (recognised (fOpcode w) = false → decodeRecord w = handlerIllegal (extract w) (resolve w)) ∧
    (recognised (fOpcode w) = true ↔ fOpcode w ∈
      [0x37#7, 0x17#7, 0x6f#7, 0x67#7, 0x63#7, 0x03#7, 0x23#7, 0x13#7, 0x33#7, 0x0f#7, 0x73#7])

/-- Rule R90. -/
def Obligations.LuiRecord : Prop :=
  (∀ (rd : BitVec 5) (imm : BitVec 20) (s : State),
    exec (.lui rd imm) s = .next
      { word := s.word, out :=
        { opcode := 0x37#7, rd := rd.setWidth 6, rs1 := (imm.extractLsb' 3 5).setWidth 6, rs2 := 32#6, rs3 := 0#6,
          funct3 := imm.extractLsb' 0 3, funct7 := imm.extractLsb' 13 6, immd := imm.setWidth 32 <<< 12,
          op := .MOV, op2 := .NOP } }) ∧
  (∀ w : Word, w.extractLsb' 0 7 = 0x37#7 → decodeInstr w = .lui (w.extractLsb' 7 5) (w.extractLsb' 12 20)) ∧
  (∀ p ∈ [(0x123452B7#32, record 0x37 5 8 32 0 5 0x09 0x12345000 .MOV .NOP)],
    decodeRecord p.1 = p.2)

/-- Rule R91, with its corner case (a): no other handler writes 33, and none overwrites `rs1` with any sentinel. -/
def Obligations.AuipcRecord : Prop :=
  (∀ (rd : BitVec 5) (imm : BitVec 20) (s : State),
    exec (.auipc rd imm) s = .next
      { word := s.word, out :=
        { opcode := 0x17#7, rd := rd.setWidth 6, rs1 := 33#6, rs2 := 32#6, rs3 := 0#6,
          funct3 := imm.extractLsb' 0 3, funct7 := imm.extractLsb' 13 6, immd := imm.setWidth 32 <<< 12,
          op := .ADDI, op2 := .NOP } }) ∧
  (∀ w : Word, w.extractLsb' 0 7 = 0x17#7 → decodeInstr w = .auipc (w.extractLsb' 7 5) (w.extractLsb' 12 20)) ∧
  (∀ w : Word, (decodeRecord w).rs1 = 33#6 ↔ w.extractLsb' 0 7 = 0x17#7) ∧
  (∀ w : Word, 32 ≤ (decodeRecord w).rs1.toNat ↔ w.extractLsb' 0 7 = 0x17#7) ∧
  (∀ p ∈ [(0xFFFFF517#32, record 0x17 10 33 32 0 7 0x3F 0xFFFFF000 .ADDI .NOP)],
    decodeRecord p.1 = p.2)

/-- Rule R92. -/
def Obligations.JalRecord : Prop :=
  (∀ (rd : BitVec 5) (offset : BitVec 21) (s : State), offset.getLsbD 0 = false →
    exec (.jal rd offset) s = .next
      { word := s.word, out :=
        { opcode := 0x6f#7, rd := rd.setWidth 6, rs1 := (offset.extractLsb' 15 5).setWidth 6, rs2 := 34#6, rs3 := 0#6,
          funct3 := offset.extractLsb' 12 3, funct7 := offset.extractLsb' 5 6, immd := offset.signExtend 32,
          op := .MOV, op2 := .JMP } }) ∧
  (∀ w : Word, w.extractLsb' 0 7 = 0x6f#7 → ∃ offset : BitVec 21, decodeInstr w = .jal (w.extractLsb' 7 5) offset ∧ offset.getLsbD 0 = false ∧
    offset.extractLsb' 20 1 = w.extractLsb' 31 1 ∧ offset.extractLsb' 12 8 = w.extractLsb' 12 8 ∧
    offset.extractLsb' 11 1 = w.extractLsb' 20 1 ∧ offset.extractLsb' 1 10 = w.extractLsb' 21 10) ∧
  (∀ p ∈ [(0x008000EF#32, record 0x6F 1 0 34 0 0 0x00 0x00000008 .MOV .JMP),
      (0xFFDFF06F#32, record 0x6F 0 31 34 0 7 0x3F 0xFFFFFFFC .MOV .JMP)],
    decodeRecord p.1 = p.2)

/-- Rule R93, conflict C3. -/
def Obligations.JalrRecord : Prop :=
  (∀ (rd rs1 : BitVec 5) (funct3 : BitVec 3) (imm : BitVec 12) (s : State),
    exec (.jalr rd rs1 funct3 imm) s = .next
      { word := s.word, out :=
        { opcode := 0x67#7, rd := rd.setWidth 6, rs1 := rs1.setWidth 6, rs2 := 34#6, rs3 := 0#6,
          funct3 := funct3, funct7 := imm.extractLsb' 5 6, immd := 0#32,
          op := .MOV, op2 := .JPR } }) ∧
  (∀ w : Word, w.extractLsb' 0 7 = 0x67#7 → decodeInstr w =
    .jalr (w.extractLsb' 7 5) (w.extractLsb' 15 5) (w.extractLsb' 12 3) (w.extractLsb' 20 12)) ∧
  (∀ p ∈ [(0x00008067#32, record 0x67 0 1 34 0 0 0x00 0x00000000 .MOV .JPR),
      (0xFFC280E7#32, record 0x67 1 5 34 0 0 0x3F 0x00000000 .MOV .JPR)],
    decodeRecord p.1 = p.2)

/-- Rule R94. -/
def Obligations.BranchRecord : Prop :=
  (∀ (rs1 rs2 : BitVec 5) (funct3 : BitVec 3) (offset : BitVec 13) (s : State), offset.getLsbD 0 = false →
    exec (.branch rs1 rs2 funct3 offset) s = .next
      { word := s.word, out :=
        { opcode := 0x63#7, rd := 0#6, rs1 := rs1.setWidth 6, rs2 := rs2.setWidth 6, rs3 := 0#6,
          funct3 := funct3, funct7 := offset.extractLsb' 5 6, immd := offset.signExtend 32,
          op := .CMP, op2 := .JCC } }) ∧
  (∀ w : Word, w.extractLsb' 0 7 = 0x63#7 → ∃ offset : BitVec 13, decodeInstr w =
      .branch (w.extractLsb' 15 5) (w.extractLsb' 20 5) (w.extractLsb' 12 3) offset ∧ offset.getLsbD 0 = false ∧
    offset.extractLsb' 12 1 = w.extractLsb' 31 1 ∧ offset.extractLsb' 11 1 = w.extractLsb' 7 1 ∧
    offset.extractLsb' 5 6 = w.extractLsb' 25 6 ∧ offset.extractLsb' 1 4 = w.extractLsb' 8 4) ∧
  (∀ p ∈ [(0x00628863#32, record 0x63 0 5 6 0 0 0x00 0x00000010 .CMP .JCC),
      (0xFE031CE3#32, record 0x63 0 6 0 0 1 0x3F 0xFFFFFFF8 .CMP .JCC)],
    decodeRecord p.1 = p.2)

/-- Rule R100. -/
def Obligations.LoadRecord : Prop :=
  (∀ (rd rs1 : BitVec 5) (funct3 : BitVec 3) (imm : BitVec 12) (s : State),
    exec (.load rd rs1 funct3 imm) s = .next
      { word := s.word, out :=
        { opcode := 0x03#7, rd := rd.setWidth 6, rs1 := rs1.setWidth 6, rs2 := 32#6, rs3 := 0#6,
          funct3 := funct3, funct7 := imm.extractLsb' 5 6, immd := imm.signExtend 32,
          op := .ADDI, op2 := .LD } }) ∧
  (∀ w : Word, w.extractLsb' 0 7 = 0x03#7 → decodeInstr w =
    .load (w.extractLsb' 7 5) (w.extractLsb' 15 5) (w.extractLsb' 12 3) (w.extractLsb' 20 12)) ∧
  (∀ p ∈ [(0x00812283#32, record 0x03 5 2 32 0 2 0x00 0x00000008 .ADDI .LD),
      (0xFFFF8083#32, record 0x03 1 31 32 0 0 0x3F 0xFFFFFFFF .ADDI .LD),
      (0x8000C003#32, record 0x03 0 1 32 0 4 0x00 0xFFFFF800 .ADDI .LD),
      (0x7FF1F483#32, record 0x03 9 3 32 0 7 0x3F 0x000007FF .ADDI .LD)],
    decodeRecord p.1 = p.2)

/-- Rule R101, with its corner case (a). -/
def Obligations.StoreRecord : Prop :=
  (∀ (rs1 rs2 : BitVec 5) (funct3 : BitVec 3) (imm : BitVec 12) (s : State),
    exec (.store rs1 rs2 funct3 imm) s = .next
      { word := s.word, out :=
        { opcode := 0x23#7, rd := 0#6, rs1 := rs1.setWidth 6, rs2 := 32#6, rs3 := rs2.setWidth 6,
          funct3 := funct3, funct7 := imm.extractLsb' 5 6, immd := imm.signExtend 32,
          op := .ADDI, op2 := .ST } }) ∧
  (∀ w : Word, w.extractLsb' 0 7 = 0x23#7 → ∃ imm : BitVec 12, decodeInstr w =
      .store (w.extractLsb' 15 5) (w.extractLsb' 20 5) (w.extractLsb' 12 3) imm ∧
    imm.extractLsb' 5 7 = w.extractLsb' 25 7 ∧ imm.extractLsb' 0 5 = w.extractLsb' 7 5) ∧
  (∀ w : Word, (decodeRecord w).rs3 ≠ 0#6 → w.extractLsb' 0 7 = 0x23#7) ∧
  (∀ p ∈ [(0x00612623#32, record 0x23 0 2 32 6 2 0x00 0x0000000C .ADDI .ST),
      (0xFFF08FA3#32, record 0x23 0 1 32 31 0 0x3F 0xFFFFFFFF .ADDI .ST),
      (0x80079023#32, record 0x23 0 15 32 0 1 0x00 0xFFFFF800 .ADDI .ST),
      (0x7E502FA3#32, record 0x23 0 0 32 5 2 0x3F 0x000007FF .ADDI .ST)],
    decodeRecord p.1 = p.2)

/-- Rule R105, all eight values of funct3; the order of mask and extension is decision D5. -/
def Obligations.OpImmRecords : Prop :=
  (∀ (rd rs1 : BitVec 5) (imm : BitVec 12) (s : State),
    exec (.opImmF0 rd rs1 imm) s = .next
      { word := s.word, out :=
        { opcode := 0x13#7, rd := rd.setWidth 6, rs1 := rs1.setWidth 6, rs2 := 32#6, rs3 := 0#6,
          funct3 := 0#3, funct7 := imm.extractLsb' 5 6, immd := imm.signExtend 32,
          op := .ADDI, op2 := .NOP } } ∧
    exec (.opImmF1 rd rs1 imm) s = .next
      { word := s.word, out :=
        { opcode := 0x13#7, rd := rd.setWidth 6, rs1 := rs1.setWidth 6, rs2 := 32#6, rs3 := 0#6,
          funct3 := 1#3, funct7 := imm.extractLsb' 5 6, immd := imm.signExtend 32 &&& 0x1f#32,
          op := .ALU, op2 := .NOP } } ∧
    exec (.opImmF2 rd rs1 imm) s = .next
      { word := s.word, out :=
        { opcode := 0x13#7, rd := rd.setWidth 6, rs1 := rs1.setWidth 6, rs2 := 32#6, rs3 := 0#6,
          funct3 := 2#3, funct7 := imm.extractLsb' 5 6, immd := imm.signExtend 32,
          op := .ALU, op2 := .NOP } } ∧
    exec (.opImmF3 rd rs1 imm) s = .next
      { word := s.word, out :=
        { opcode := 0x13#7, rd := rd.setWidth 6, rs1 := rs1.setWidth 6, rs2 := 32#6, rs3 := 0#6,
          funct3 := 3#3, funct7 := imm.extractLsb' 5 6, immd := imm.signExtend 32,
          op := .ALU, op2 := .NOP } } ∧
    exec (.opImmF4 rd rs1 imm) s = .next
      { word := s.word, out :=
        { opcode := 0x13#7, rd := rd.setWidth 6, rs1 := rs1.setWidth 6, rs2 := 32#6, rs3 := 0#6,
          funct3 := 4#3, funct7 := imm.extractLsb' 5 6, immd := imm.signExtend 32,
          op := .ALU, op2 := .NOP } } ∧
    exec (.opImmF5 rd rs1 imm) s = .next
      { word := s.word, out :=
        { opcode := 0x13#7, rd := rd.setWidth 6, rs1 := rs1.setWidth 6, rs2 := 32#6, rs3 := 0#6,
          funct3 := 5#3, funct7 := imm.extractLsb' 5 6, immd := imm.signExtend 32 &&& 0x1f#32,
          op := .ALU, op2 := .NOP } } ∧
    exec (.opImmF6 rd rs1 imm) s = .next
      { word := s.word, out :=
        { opcode := 0x13#7, rd := rd.setWidth 6, rs1 := rs1.setWidth 6, rs2 := 32#6, rs3 := 0#6,
          funct3 := 6#3, funct7 := imm.extractLsb' 5 6, immd := imm.signExtend 32,
          op := .ALU, op2 := .NOP } } ∧
    exec (.opImmF7 rd rs1 imm) s = .next
      { word := s.word, out :=
        { opcode := 0x13#7, rd := rd.setWidth 6, rs1 := rs1.setWidth 6, rs2 := 32#6, rs3 := 0#6,
          funct3 := 7#3, funct7 := imm.extractLsb' 5 6, immd := imm.signExtend 32,
          op := .ALU, op2 := .NOP } }) ∧
  (∀ w : Word, w.extractLsb' 0 7 = 0x13#7 → decodeInstr w =
    opImmRow (w.extractLsb' 12 3) (w.extractLsb' 7 5) (w.extractLsb' 15 5) (w.extractLsb' 20 12)) ∧
  (∀ p ∈ [(0x00000013#32, record 0x13 0 0 32 0 0 0x00 0x00000000 .ADDI .NOP),
      (0xFFF10093#32, record 0x13 1 2 32 0 0 0x3F 0xFFFFFFFF .ADDI .NOP),
      (0x7FF28293#32, record 0x13 5 5 32 0 0 0x3F 0x000007FF .ADDI .NOP),
      (0x80028293#32, record 0x13 5 5 32 0 0 0x00 0xFFFFF800 .ADDI .NOP),
      (0x01F09093#32, record 0x13 1 1 32 0 1 0x00 0x0000001F .ALU .NOP),
      (0x03F01013#32, record 0x13 0 0 32 0 1 0x01 0x0000001F .ALU .NOP),
      (0xFFF09093#32, record 0x13 1 1 32 0 1 0x3F 0x0000001F .ALU .NOP),
      (0xFFB22193#32, record 0x13 3 4 32 0 2 0x3F 0xFFFFFFFB .ALU .NOP),
      (0xFFF23193#32, record 0x13 3 4 32 0 3 0x3F 0xFFFFFFFF .ALU .NOP),
      (0xFFF3C313#32, record 0x13 6 7 32 0 4 0x3F 0xFFFFFFFF .ALU .NOP),
      (0x0011D113#32, record 0x13 2 3 32 0 5 0x00 0x00000001 .ALU .NOP),
      (0x4011D113#32, record 0x13 2 3 32 0 5 0x20 0x00000001 .ALU .NOP),
      (0x41F4D413#32, record 0x13 8 9 32 0 5 0x20 0x0000001F .ALU .NOP),
      (0x8000D093#32, record 0x13 1 1 32 0 5 0x00 0x00000000 .ALU .NOP),
      (0x5553E313#32, record 0x13 6 7 32 0 6 0x2A 0x00000555 .ALU .NOP),
      (0x7FF3F313#32, record 0x13 6 7 32 0 7 0x3F 0x000007FF .ALU .NOP)],
    decodeRecord p.1 = p.2)

/-- Rule R106. -/
def Obligations.OpRecord : Prop :=
  (∀ (rd rs1 rs2 : BitVec 5) (funct3 : BitVec 3) (funct7 : BitVec 6) (top : BitVec 1) (s : State),
    exec (.op rd rs1 rs2 funct3 funct7 top) s = .next
      { word := s.word, out :=
        { opcode := 0x33#7, rd := rd.setWidth 6, rs1 := rs1.setWidth 6, rs2 := rs2.setWidth 6, rs3 := 0#6,
          funct3 := funct3, funct7 := funct7, immd := 0#32,
          op := .ALU, op2 := .NOP } }) ∧
  (∀ w : Word, w.extractLsb' 0 7 = 0x33#7 → decodeInstr w =
    .op (w.extractLsb' 7 5) (w.extractLsb' 15 5) (w.extractLsb' 20 5) (w.extractLsb' 12 3) (w.extractLsb' 25 6)
      (w.extractLsb' 31 1)) ∧
  (∀ p ∈ [(0x002081B3#32, record 0x33 3 1 2 0 0 0x00 0x00000000 .ALU .NOP),
      (0x402081B3#32, record 0x33 3 1 2 0 0 0x20 0x00000000 .ALU .NOP),
      (0x007312B3#32, record 0x33 5 6 7 0 1 0x00 0x00000000 .ALU .NOP),
      (0x007322B3#32, record 0x33 5 6 7 0 2 0x00 0x00000000 .ALU .NOP),
      (0x007332B3#32, record 0x33 5 6 7 0 3 0x00 0x00000000 .ALU .NOP),
      (0x007342B3#32, record 0x33 5 6 7 0 4 0x00 0x00000000 .ALU .NOP),
      (0x007352B3#32, record 0x33 5 6 7 0 5 0x00 0x00000000 .ALU .NOP),
      (0x407352B3#32, record 0x33 5 6 7 0 5 0x20 0x00000000 .ALU .NOP),
      (0x007362B3#32, record 0x33 5 6 7 0 6 0x00 0x00000000 .ALU .NOP),
      (0x01FFFFB3#32, record 0x33 31 31 31 0 7 0x00 0x00000000 .ALU .NOP),
      (0x02B50533#32, record 0x33 10 10 11 0 0 0x01 0x00000000 .ALU .NOP),
      (0x802081B3#32, record 0x33 3 1 2 0 0 0x00 0x00000000 .ALU .NOP),
      (0xFE2081B3#32, record 0x33 3 1 2 0 0 0x3F 0x00000000 .ALU .NOP),
      (0x00000033#32, record 0x33 0 0 0 0 0 0x00 0x00000000 .ALU .NOP)],
    decodeRecord p.1 = p.2)

/-- Rule R115. -/
def Obligations.MiscMemRecord : Prop :=
  (∀ (dest rs1 : BitVec 5) (funct3 : BitVec 3) (imm : BitVec 12) (s : State),
    exec (.miscMem dest rs1 funct3 imm) s = .next
      { word := s.word, out :=
        { opcode := 0x0f#7, rd := 0#6, rs1 := rs1.setWidth 6, rs2 := (imm.extractLsb' 0 5).setWidth 6, rs3 := 0#6,
          funct3 := funct3, funct7 := imm.extractLsb' 5 6, immd := imm.signExtend 32,
          op := .NOP, op2 := .NOP } }) ∧
  (∀ w : Word, w.extractLsb' 0 7 = 0x0f#7 → decodeInstr w =
    .miscMem (w.extractLsb' 7 5) (w.extractLsb' 15 5) (w.extractLsb' 12 3) (w.extractLsb' 20 12)) ∧
  (∀ p ∈ [(0x0FF0000F#32, record 0x0F 0 0 31 0 0 0x07 0x000000FF .NOP .NOP),
      (0x0FF3028F#32, record 0x0F 0 6 31 0 0 0x07 0x000000FF .NOP .NOP),
      (0x0000100F#32, record 0x0F 0 0 0 0 1 0x00 0x00000000 .NOP .NOP)],
    decodeRecord p.1 = p.2)

/-- Rule R116. -/
def Obligations.SystemRecord : Prop :=
  (∀ (dest rs1 : BitVec 5) (funct3 : BitVec 3) (imm : BitVec 12) (s : State),
    exec (.system dest rs1 funct3 imm) s = .next
      { word := s.word, out :=
        { opcode := 0x73#7, rd := 0#6, rs1 := rs1.setWidth 6, rs2 := (imm.extractLsb' 0 5).setWidth 6, rs3 := 0#6,
          funct3 := funct3, funct7 := imm.extractLsb' 5 6, immd := imm.signExtend 32,
          op := .NOP, op2 := .SPC } }) ∧
  (∀ w : Word, w.extractLsb' 0 7 = 0x73#7 → decodeInstr w =
    .system (w.extractLsb' 7 5) (w.extractLsb' 15 5) (w.extractLsb' 12 3) (w.extractLsb' 20 12)) ∧
  (∀ p ∈ [(0x00000073#32, record 0x73 0 0 0 0 0 0x00 0x00000000 .NOP .SPC),
      (0x00100073#32, record 0x73 0 0 1 0 0 0x00 0x00000001 .NOP .SPC),
      (0x30200073#32, record 0x73 0 0 2 0 0 0x18 0x00000302 .NOP .SPC),
      (0x300312F3#32, record 0x73 0 6 0 0 1 0x18 0x00000300 .NOP .SPC),
      (0xC0002573#32, record 0x73 0 0 0 0 2 0x20 0xFFFFFC00 .NOP .SPC)],
    decodeRecord p.1 = p.2)

/-- Rule R117 for every unrecognised opcode; that funct3 and funct7 stay raw is decision D4 (log entry 5). -/
def Obligations.IllegalRecords : Prop :=
  (∀ (i : Instr) (opc : BitVec 7) (rest : BitVec 25) (s : State), illegalRow i = some (opc, rest) →
    exec i s = .next
      { word := s.word, out :=
        { opcode := opc, rd := 0#6, rs1 := 0#6, rs2 := 0#6, rs3 := 0#6,
          funct3 := rest.extractLsb' 5 3, funct7 := rest.extractLsb' 18 6, immd := 0#32,
          op := .NOP, op2 := .EXP } }) ∧
  (∀ w : Word, recognised (w.extractLsb' 0 7) = false ↔
    illegalRow (decodeInstr w) = some (w.extractLsb' 0 7, w.extractLsb' 7 25))

/-- The two-stage machine refines the one total function of rule R2. -/
def Obligations.StepIsTheDecoderFunction : Prop :=
  ∀ s : State, step s = .next { word := s.word, out := decodeRecord s.word }

/-- Completion and frame of every instruction at once: no error channel (rule R130), a complete record each time (rule R20). -/
def Obligations.EveryMeaningDrivesItsWordsRecord : Prop :=
  ∀ (i : Instr) (s : State), exec i s = .next { word := s.word, out := decodeRecord (encode i) }

/-- The frame of every instruction: the one input is the caller's, the outputs depend on the instruction alone. -/
def Obligations.ExecLeavesTheInputAlone : Prop :=
  ∀ (i : Instr) (s s' t u : State), exec i s = .next t → exec i s' = .next u →
    t.word = s.word ∧ u.word = s'.word ∧ t.out = u.out

/-- Rules R2 and R33: two presentations of the same word give the same record, and decoding is idempotent. -/
def Obligations.SameWordGivesSameRecord : Prop :=
  (∀ s s' : State, s.word = s'.word → step s = step s') ∧
  (∀ s t : State, step s = .next t → step t = .next t)

/-- Rules R35 and R153: successive words do not interact. -/
def Obligations.StreamIsDecodedWordByWord : Prop :=
  ∀ (s : State) (ws : List Word), recordsOf s ws = ws.map decodeRecord

/-- Rules R26 and R151: whatever the outputs showed, a step leaves them the record of the word presented. -/
def Obligations.StepSettlesTheOutputs : Prop :=
  ∀ s t : State, step s = .next t → Settled t ∧ t.word = s.word

/-- The ranges of rule R12's table as an invariant; the model's derivation of them is the spec's own inference in rules R14 and R17. -/
def Obligations.StepKeepsRecordsLegal : Prop :=
  (∀ s t : State, LegalRecord s.out → step s = .next t → LegalRecord t.out) ∧
  (∀ w : Word, LegalRecord (decodeRecord w))

/-- The model's choice of log entry 2 meets the invariants. -/
def Obligations.ResetIsSettledAndLegal : Prop :=
  Settled State.reset ∧ LegalRecord State.reset.out ∧ State.reset.word = 0#32

/-- Rule R27.  The funct3 = 7 and funct7 = 0x3f of the all-ones word rest on the spec's decision D4 (log entry 5). -/
def Obligations.IdleBusRecords : Prop :=
  decodeRecord 0x00000000#32 = record 0x00 0 0 0 0 0 0x00 0x00000000 .NOP .EXP ∧
  decodeRecord 0xFFFFFFFF#32 = record 0x7f 0 0 0 0 7 0x3f 0x00000000 .NOP .EXP

/-- Rules R14 and R18 with the properties P-S1 to P-S4. -/
def Obligations.IndexSources : Prop :=
  ∀ w : Word,
    (decodeRecord w).rd =
      (if fOpcode w ∈ [0x37#7, 0x17#7, 0x6f#7, 0x67#7, 0x03#7, 0x13#7, 0x33#7] then (w.extractLsb' 7 5).setWidth 6 else 0#6) ∧
    (decodeRecord w).rs1 =
      (if fOpcode w = 0x17#7 then 33#6 else if recognised (fOpcode w) then (w.extractLsb' 15 5).setWidth 6 else 0#6) ∧
    (decodeRecord w).rs2 =
      (if fOpcode w ∈ [0x37#7, 0x17#7, 0x03#7, 0x23#7, 0x13#7] then 32#6
       else if fOpcode w ∈ [0x6f#7, 0x67#7] then 34#6
       else if recognised (fOpcode w) then (w.extractLsb' 20 5).setWidth 6 else 0#6)

/-- Rule R19. -/
def Obligations.StoreDataIndexOnlyForStores : Prop :=
  ∀ w : Word, (decodeRecord w).rs3 = if fOpcode w = 0x23#7 then (w.extractLsb' 20 5).setWidth 6 else 0#6

/-- Rules R13 and R15; for an unrecognised opcode it is decision D4 (log entry 5). -/
def Obligations.RawFieldsPassThrough : Prop :=
  ∀ w : Word, (decodeRecord w).opcode = w.extractLsb' 0 7 ∧ (decodeRecord w).funct3 = w.extractLsb' 12 3 ∧
    (decodeRecord w).funct7 = w.extractLsb' 25 6

/-- Rules R132 and R136: the marker is exact, and no sub-code is judged. -/
def Obligations.IllegalMarkerIsExact : Prop :=
  (∀ w : Word, ((decodeRecord w).op2 = .EXP ↔ recognised (fOpcode w) = false) ∧
    ((decodeRecord w).isIllegal = true ↔ recognised (fOpcode w) = false) ∧
    ((decodeRecord w).asksForTrap = true ↔ recognised (fOpcode w) = false ∨ fOpcode w = 0x73#7) ∧
    ((decodeRecord w).op2 = .EXP → (decodeRecord w).op = .NOP ∧ (decodeRecord w).rd = 0#6 ∧ (decodeRecord w).rs1 = 0#6 ∧
      (decodeRecord w).rs2 = 0#6 ∧ (decodeRecord w).rs3 = 0#6 ∧ (decodeRecord w).immd = 0#32)) ∧
  (List.range 128).countP (fun n => !recognised (BitVec.ofNat 7 n)) = 117

/-- Rule R55. -/
def Obligations.CompressedSpaceIsMarkedIllegal : Prop :=
  ∀ w : Word, w.extractLsb' 0 2 ≠ 3#2 → (decodeRecord w).op2 = .EXP

/-- The table after rule R17. -/
def Obligations.OperationCodesByOpcode : Prop :=
  ∀ w : Word,
    ((decodeRecord w).op = .MOV ↔ fOpcode w ∈ [0x37#7, 0x6f#7, 0x67#7]) ∧
    ((decodeRecord w).op = .ADDI ↔ fOpcode w ∈ [0x17#7, 0x03#7, 0x23#7] ∨ (fOpcode w = 0x13#7 ∧ fFunct3 w = 0#3)) ∧
    ((decodeRecord w).op = .ALU ↔ fOpcode w = 0x33#7 ∨ (fOpcode w = 0x13#7 ∧ fFunct3 w ≠ 0#3)) ∧
    ((decodeRecord w).op = .CMP ↔ fOpcode w = 0x63#7) ∧
    ((decodeRecord w).op = .NOP ↔ fOpcode w ∈ [0x0f#7, 0x73#7] ∨ recognised (fOpcode w) = false) ∧
    ((decodeRecord w).op2 = .NOP ↔ fOpcode w ∈ [0x37#7, 0x17#7, 0x13#7, 0x33#7, 0x0f#7]) ∧
    ((decodeRecord w).op2 = .JMP ↔ fOpcode w = 0x6f#7) ∧
    ((decodeRecord w).op2 = .JPR ↔ fOpcode w = 0x67#7) ∧
    ((decodeRecord w).op2 = .JCC ↔ fOpcode w = 0x63#7) ∧
    ((decodeRecord w).op2 = .LD ↔ fOpcode w = 0x03#7) ∧
    ((decodeRecord w).op2 = .ST ↔ fOpcode w = 0x23#7) ∧
    ((decodeRecord w).op2 = .SPC ↔ fOpcode w = 0x73#7) ∧
    ((decodeRecord w).op2 = .EXP ↔ recognised (fOpcode w) = false)

/-- Rule R57's table (with conflict C7), as equality of outputs of two words that agree on the listed bits.  That funct3 and funct7
depend on their own bits alone for unrecognised opcodes too is the spec's decision D4 (log entry 5). -/
def Obligations.OutputsDependOnTheirBitsOnly : Prop :=
  ∀ v w : Word,
    (v.extractLsb' 12 3 = w.extractLsb' 12 3 → (decodeRecord v).funct3 = (decodeRecord w).funct3) ∧
    (v.extractLsb' 25 6 = w.extractLsb' 25 6 → (decodeRecord v).funct7 = (decodeRecord w).funct7) ∧
    (v.extractLsb' 0 7 = w.extractLsb' 0 7 →
      (decodeRecord v).opcode = (decodeRecord w).opcode ∧ (decodeRecord v).op2 = (decodeRecord w).op2 ∧
      ((v.extractLsb' 0 7 = 0x13#7 → v.extractLsb' 12 3 = w.extractLsb' 12 3) → (decodeRecord v).op = (decodeRecord w).op) ∧
      (v.extractLsb' 7 5 = w.extractLsb' 7 5 → (decodeRecord v).rd = (decodeRecord w).rd) ∧
      (v.extractLsb' 15 5 = w.extractLsb' 15 5 → (decodeRecord v).rs1 = (decodeRecord w).rs1) ∧
      (v.extractLsb' 20 5 = w.extractLsb' 20 5 →
        (decodeRecord v).rs2 = (decodeRecord w).rs2 ∧ (decodeRecord v).rs3 = (decodeRecord w).rs3) ∧
      (v.extractLsb' 0 7 ∈ [0x37#7, 0x17#7, 0x6f#7] → v.extractLsb' 12 20 = w.extractLsb' 12 20 →
        (decodeRecord v).immd = (decodeRecord w).immd) ∧
      (v.extractLsb' 0 7 ∈ [0x63#7, 0x23#7] → v.extractLsb' 25 7 = w.extractLsb' 25 7 →
        v.extractLsb' 7 5 = w.extractLsb' 7 5 → (decodeRecord v).immd = (decodeRecord w).immd) ∧
      (v.extractLsb' 0 7 ∈ [0x03#7, 0x0f#7, 0x73#7] → v.extractLsb' 20 12 = w.extractLsb' 20 12 →
        (decodeRecord v).immd = (decodeRecord w).immd) ∧
      (v.extractLsb' 0 7 = 0x13#7 → v.extractLsb' 12 2 = w.extractLsb' 12 2 → v.extractLsb' 20 5 = w.extractLsb' 20 5 →
        (v.extractLsb' 12 2 = 1#2 ∨ v.extractLsb' 25 7 = w.extractLsb' 25 7) →
        (decodeRecord v).immd = (decodeRecord w).immd) ∧
      (v.extractLsb' 0 7 ∈ [0x67#7, 0x33#7] ∨ recognised (v.extractLsb' 0 7) = false →
        (decodeRecord v).immd = (decodeRecord w).immd))

/-- Rule R57's closing list (with conflict C8), both ways: no dead bit matters, every other bit does.  That bits 30:25 and 14:12 of an
unrecognised word are live is the spec's decision D4 (log entry 5). -/
def Obligations.RecordsAgreeExactlyOnLiveBits : Prop :=
  ∀ v w : Word, decodeRecord v = decodeRecord w ↔ v &&& liveBits v = w &&& liveBits v

/-- Rules R60 to R65. -/
def Obligations.RawFieldFormulas : Prop :=
  (∀ w : Word,
    ((extract w).opcode.setWidth 32 = w &&& 0x7f#32 ∧ (extract w).opcode = w.extractLsb' 0 7) ∧
    ((extract w).rd.setWidth 32 = (w >>> 7) &&& 0x1f#32 ∧ (extract w).rd = w.extractLsb' 7 5) ∧
    ((extract w).funct3.setWidth 32 = (w >>> 12) &&& 0x7#32 ∧ (extract w).funct3 = w.extractLsb' 12 3) ∧
    ((extract w).rs1.setWidth 32 = (w >>> 15) &&& 0x1f#32 ∧ (extract w).rs1 = w.extractLsb' 15 5) ∧
    ((extract w).rs2.setWidth 32 = (w >>> 20) &&& 0x1f#32 ∧ (extract w).rs2 = w.extractLsb' 20 5) ∧
    ((extract w).funct7.setWidth 32 = (w >>> 25) &&& 0x3f#32 ∧ (extract w).funct7 = w.extractLsb' 25 6) ∧
    (extract (w ^^^ 0x80000000#32)).funct7 = (extract w).funct7) ∧
  extract 0xFE5F9AE3#32 = { opcode := 0x63#7, rd := 21#5, funct3 := 1#3, rs1 := 31#5, rs2 := 5#5, funct7 := 0x3f#6 }

/-- Rule R66 and the identity after it. -/
def Obligations.RawFieldsReassembleTheWord : Prop :=
  ∀ w : Word, encR (w.extractLsb' 31 1) (fFunct7 w) (fRs2 w) (fRs1 w) (fFunct3 w) (fRd w) (fOpcode w) = w

/-- Rules R70 and R71. -/
def Obligations.ImmediateI : Prop :=
  (∀ w : Word, immI_z w = (w >>> 20) &&& 0xfff#32 ∧ immI_z w = (w.extractLsb' 20 12).setWidth 32 ∧
    immI_z w &&& 0xFFFFF000#32 = 0#32 ∧ (immI_z w).getLsbD 11 = w.getLsbD 31 ∧
    immI_s w = (if (immI_z w).getLsbD 11 then immI_z w ||| 0xFFFFF000#32 else immI_z w) ∧
    immI_s w = (w.extractLsb' 20 12).signExtend 32) ∧
  (∀ v : BitVec 12, immI_s (v.setWidth 32 <<< 20) = if v.getLsbD 11 then v.setWidth 32 ||| 0xFFFFF000#32 else v.setWidth 32) ∧
  immI_z 0xFE5F9AE3#32 = 0xFE5#32 ∧ immI_s 0xFE5F9AE3#32 = 0xFFFFFFE5#32 ∧ immI_z 0x7D5A8A63#32 = 0x7D5#32 ∧
  immI_s 0x7D5A8A63#32 = 0x000007D5#32 ∧ immI_z 0x80000000#32 = 0x800#32 ∧ immI_s 0x80000000#32 = 0xFFFFF800#32 ∧
  immI_z 0x00100000#32 = 0x001#32 ∧ immI_s 0x00100000#32 = 0x00000001#32 ∧ immI_z 0x7FF00000#32 = 0x7FF#32 ∧
  immI_s 0x7FF00000#32 = 0x000007FF#32 ∧ immI_z 0xFFF00000#32 = 0xFFF#32 ∧ immI_s 0xFFF00000#32 = 0xFFFFFFFF#32 ∧
  immI_z 0x00000000#32 = 0x000#32 ∧ immI_s 0x00000000#32 = 0#32

/-- Rules R72 and R73. -/
def Obligations.ImmediateS : Prop :=
  (∀ w : Word, immS_z w = (((w >>> 25) &&& 0x7f#32) <<< 5) ||| ((w >>> 7) &&& 0x1f#32) ∧
    immS_z w = (w.extractLsb' 25 7).setWidth 32 <<< 5 ||| (w.extractLsb' 7 5).setWidth 32 ∧
    (immS_z w).extractLsb' 0 5 = fRd w ∧ immS_z w &&& 0xFFFFF000#32 = 0#32 ∧ (immS_z w).getLsbD 11 = w.getLsbD 31 ∧
    immS_s w = (if (immS_z w).getLsbD 11 then immS_z w ||| 0xFFFFF000#32 else immS_z w) ∧
    immS_s w = ((immS_z w).extractLsb' 0 12).signExtend 32) ∧
  immS_z 0xFE5F9AE3#32 = 0xFF5#32 ∧ immS_s 0xFE5F9AE3#32 = 0xFFFFFFF5#32 ∧ immS_z 0x7D5A8A63#32 = 0x7D4#32 ∧
  immS_s 0x7D5A8A63#32 = 0x000007D4#32 ∧ immS_z 0x00000F80#32 = 0x01F#32 ∧ immS_s 0x00000F80#32 = 0x0000001F#32 ∧
  immS_z 0x80000080#32 = 0x801#32 ∧ immS_s 0x80000080#32 = 0xFFFFF801#32

/-- Rule R74. -/
def Obligations.ImmediateU : Prop :=
  (∀ w : Word, immU_z w = w &&& 0xFFFFF000#32 ∧ immU_z w = (w.extractLsb' 12 20).setWidth 32 <<< 12 ∧
    immU_z w &&& 0xFFF#32 = 0#32 ∧ (immU_z w).getLsbD 31 = w.getLsbD 31) ∧
  immU_z 0xFE5F9AE3#32 = 0xFE5F9000#32 ∧ immU_z 0x7D5A8A63#32 = 0x7D5A8000#32 ∧
  immU_z 0xFFFFFFFF#32 = 0xFFFFF000#32 ∧ immU_z 0x00000FFF#32 = 0#32

/-- Rules R75 and R76. -/
def Obligations.ImmediateB : Prop :=
  (∀ w : Word,
    immB_z w = (w.extractLsb' 31 1).setWidth 32 <<< 12 ||| (w.extractLsb' 7 1).setWidth 32 <<< 11 |||
      (w.extractLsb' 25 6).setWidth 32 <<< 5 ||| (w.extractLsb' 8 4).setWidth 32 <<< 1 ∧
    (immB_z w).extractLsb' 5 6 = fFunct7 w ∧ (immB_z w).getLsbD 11 = (fRd w).getLsbD 0 ∧
    (immB_z w).extractLsb' 1 4 = (fRd w).extractLsb' 1 4 ∧ (immB_z w).getLsbD 0 = false ∧
    immB_z w &&& 0xFFFFE000#32 = 0#32 ∧ (immB_z w).getLsbD 12 = w.getLsbD 31 ∧
    immB_s w = (if (immB_z w).getLsbD 12 then immB_z w ||| 0xFFFFE000#32 else immB_z w) ∧
    immB_s w = ((immB_z w).extractLsb' 0 13).signExtend 32 ∧ (immB_s w).getLsbD 0 = false) ∧
  immB_z 0xFE5F9AE3#32 = 0x1FF4#32 ∧ immB_s 0xFE5F9AE3#32 = 0xFFFFFFF4#32 ∧ immB_z 0x7D5A8A63#32 = 0x07D4#32 ∧
  immB_s 0x7D5A8A63#32 = 0x000007D4#32 ∧ immB_z 0x00000080#32 = 0x0800#32 ∧ immB_s 0x00000080#32 = 0x00000800#32 ∧
  immB_z 0x00000F80#32 = 0x081E#32 ∧ immB_s 0x00000F80#32 = 0x0000081E#32 ∧ immB_z 0x80000000#32 = 0x1000#32 ∧
  immB_s 0x80000000#32 = 0xFFFFF000#32 ∧ immB_z 0x7E000F00#32 = 0x07FE#32 ∧ immB_s 0x7E000F00#32 = 0x000007FE#32 ∧
  immB_z 0x7E000F80#32 = 0x0FFE#32 ∧ immB_s 0x7E000F80#32 = 0x00000FFE#32

/-- Rules R77 and R78. -/
def Obligations.ImmediateJ : Prop :=
  (∀ w : Word,
    immJ_z w = (w.extractLsb' 31 1).setWidth 32 <<< 20 ||| (w.extractLsb' 12 8).setWidth 32 <<< 12 |||
      (w.extractLsb' 20 1).setWidth 32 <<< 11 ||| (w.extractLsb' 21 10).setWidth 32 <<< 1 ∧
    (immJ_z w).extractLsb' 12 8 = w.extractLsb' 12 8 ∧ (immJ_z w).getLsbD 0 = false ∧
    immJ_z w &&& 0xFFE00000#32 = 0#32 ∧ (immJ_z w).getLsbD 20 = w.getLsbD 31 ∧
    immJ_s w = (if (immJ_z w).getLsbD 20 then immJ_z w ||| 0xFFE00000#32 else immJ_z w) ∧
    immJ_s w = ((immJ_z w).extractLsb' 0 21).signExtend 32 ∧ (immJ_s w).getLsbD 0 = false) ∧
  immJ_z 0xFE5F9AE3#32 = 0x1F9FE4#32 ∧ immJ_z 0x7D5A8A63#32 = 0x0A8FD4#32 ∧ immJ_z 0x00100000#32 = 0x000800#32 ∧
  immJ_z 0x000FF000#32 = 0x0FF000#32 ∧ immJ_z 0x7FE00000#32 = 0x0007FE#32 ∧ immJ_z 0x80000000#32 = 0x100000#32 ∧
  immJ_s 0xFE5F9AE3#32 = 0xFFFF9FE4#32 ∧ immJ_s 0x7D5A8A63#32 = 0x000A8FD4#32 ∧
  immJ_s 0x80000000#32 = 0xFFF00000#32 ∧ immJ_s 0xFFFFFFFF#32 = 0xFFFFFFFE#32

/-- Rule R80, properties P-I1 and P-I2. -/
def Obligations.ImmediatesShareTheSignBit : Prop :=
  ∀ w : Word,
    immI_s w = ((immI_z w).extractLsb' 0 12).signExtend 32 ∧ immS_s w = ((immS_z w).extractLsb' 0 12).signExtend 32 ∧
    immB_s w = ((immB_z w).extractLsb' 0 13).signExtend 32 ∧ immJ_s w = ((immJ_z w).extractLsb' 0 21).signExtend 32 ∧
    (immI_s w).msb = w.msb ∧ (immS_s w).msb = w.msb ∧ (immB_s w).msb = w.msb ∧ (immJ_s w).msb = w.msb ∧
    (immU_z w).msb = w.msb

/-- Rule R81. -/
def Obligations.OffsetAlignment : Prop :=
  (∀ w : Word, (immB_z w).getLsbD 0 = false ∧ (immJ_z w).getLsbD 0 = false ∧ (immB_s w).getLsbD 0 = false ∧
    (immJ_s w).getLsbD 0 = false ∧ (immU_z w).extractLsb' 0 12 = 0#12) ∧
  (∃ w : Word, (immB_z w).getLsbD 1 = true ∧ (immJ_z w).getLsbD 1 = true ∧ (immB_s w).getLsbD 1 = true ∧
    (immJ_s w).getLsbD 1 = true)

/-- The table after rule R43, property P-I3. -/
def Obligations.ImmediateRanges : Prop :=
  ∀ w : Word,
    (immI_z w).toNat ≤ 4095 ∧ (immS_z w).toNat ≤ 4095 ∧ (immB_z w).toNat ≤ 8190 ∧ (immJ_z w).toNat ≤ 2097150 ∧
    (-2048 ≤ (immI_s w).toInt ∧ (immI_s w).toInt ≤ 2047) ∧ (-2048 ≤ (immS_s w).toInt ∧ (immS_s w).toInt ≤ 2047) ∧
    (-4096 ≤ (immB_s w).toInt ∧ (immB_s w).toInt ≤ 4094) ∧
    (-1048576 ≤ (immJ_s w).toInt ∧ (immJ_s w).toInt ≤ 1048574) ∧ (immU_z w).toNat % 4096 = 0

/-- Rule R105's derived value; decision D5 is unobservable. -/
def Obligations.ShiftImmediateIsTheRawField : Prop :=
  (∀ w : Word, fOpcode w = 0x13#7 → fFunct3 w = 1#3 ∨ fFunct3 w = 5#3 →
    (decodeRecord w).immd = (fRs2 w).setWidth 32 ∧ (decodeRecord w).immd = immI_z w &&& 0x1f#32) ∧
  (decodeRecord 0x03F01013#32).immd = 0x1F#32

/-- Rule R17's encoding, decision D3. -/
def Obligations.OperationCodeEncoding : Prop :=
  ([OpCode.MOV, .ADDI, .ALU, .CMP, .LD, .ST, .JMP, .JPR, .JCC, .SPC, .NOP, .EXP].map fun o => (opEncDefault o).toNat) =
    List.range 12 ∧
  (∀ a b : OpCode, opEncDefault a = opEncDefault b → a = b) ∧
  (∀ w : Word, ((decodeRecord w).ports opEncDefault).op_o.toNat < 12 ∧ ((decodeRecord w).ports opEncDefault).op2_o.toNat < 12) ∧
  (∀ opEnc : OpCode → BitVec 4, (∀ a b : OpCode, opEnc a = opEnc b → a = b) →
    ∀ q r : Instruction, q.ports opEnc = r.ports opEnc → q = r)

/-- Rules R14 and R18 in the terms of decision D15's map (log entry 6): an index is a register number or a sentinel, never 35 to 63.
Whether the instruction uses what a raw index numbers is not said: the raw rs1 of LUI and JAL words and the raw rs2 of MISC_MEM and SYSTEM words name no
operand (R90 (a), R92 (a), R115 (b), U8). -/
def Obligations.EveryIndexIsARegisterNumberOrASentinel : Prop :=
  (∀ o : Operand, operandOfIndex o.index = some o) ∧
  (∀ x : BitVec 6, operandOfIndex x = none ↔ 35 ≤ x.toNat) ∧
  Operand.immediate.index = 32#6 ∧ Operand.programCounter.index = 33#6 ∧ Operand.programCounterPlusFour.index = 34#6 ∧
  (∀ i : BitVec 5, (Operand.register i).index.toNat = i.toNat) ∧
  (∀ w : Word, (∃ i, operandOfIndex (decodeRecord w).rd = some (.register i)) ∧
    (∃ o, operandOfIndex (decodeRecord w).rs1 = some o) ∧ (∃ o, operandOfIndex (decodeRecord w).rs2 = some o) ∧
    (∃ i, operandOfIndex (decodeRecord w).rs3 = some (.register i)))

/-- That every 32-bit value decodes is rule R11.  That fewer than 32 bits decode with zeros above them, and that more bits, or a number
that does not fit its bits, are rejected by name, is the model's choice (log entry 10). -/
def Obligations.BitsThatDoNotFitAWordAreRejected : Prop :=
  ∀ nbits n : Nat,
    (nbits ≤ 32 ∧ n < 2 ^ nbits → decodeTableWord nbits n = some (decodeInstr (BitVec.ofNat 32 n))) ∧
    (¬(nbits ≤ 32 ∧ n < 2 ^ nbits) → decodeTableWord nbits n = none ∧
      (match decodeBits nbits n with | .error r => r = DecodeReject.notOneWord | .ok _ => False))

/-- Rule R10's sentences on the state and the step: the block's own state is the unit type, a step is the evaluation of decode on the
word presented, and at an instant of the block (outputs the record of the word) it changes nothing.  That the ports stand in State
beside the block's own state is log entry 1. -/
def Obligations.StepChangesNothingOnceSettled : Prop :=
  (∀ s : State, Settled s → step s = .next s) ∧
  (∀ s t : State, step s = .next t → (t.held, t.out) = blockStep s.held s.word ∧ t.held = s.held ∧ t.word = s.word)

/-- Rule R26: every output is, at every instant, decode of the word then presented; so an instant holds nothing beyond its word, and
(rule R10) a step changes nothing in it.  Where the instants start is log entry 2. -/
def Obligations.OutputsAreTheRecordAtEveryInstant : Prop :=
  (∀ s : State, Instant s → s.out = decodeRecord s.word ∧ step s = .next s) ∧
  (∀ s t : State, Instant s → Instant t → s.word = t.word → s = t) ∧
  (∀ w : Word, ∃ s : State, Instant s ∧ s.word = w)
end

