-- ==== Sys2Proof/Laws/Decode.lean ====
section
/-! SUPPORT. What each extraction reads from a word of each format, and the row each recognised opcode selects. -/

namespace Sys2Proof

section
variable (top : BitVec 1) (funct7 : BitVec 6) (rs2 rs1 : BitVec 5) (funct3 : BitVec 3) (rd : BitVec 5) (opc : BitVec 7)

@[simp] theorem fOpcode_encR : fOpcode (encR top funct7 rs2 rs1 funct3 rd opc) = opc := by
  ext i hi; simp [fOpcode, encR, place]; interval_cases i <;> simp
@[simp] theorem fRd_encR : fRd (encR top funct7 rs2 rs1 funct3 rd opc) = rd := by
  ext i hi; simp [fRd, encR, place]; interval_cases i <;> simp
@[simp] theorem fFunct3_encR : fFunct3 (encR top funct7 rs2 rs1 funct3 rd opc) = funct3 := by
  ext i hi; simp [fFunct3, encR, place]; interval_cases i <;> simp
@[simp] theorem fRs1_encR : fRs1 (encR top funct7 rs2 rs1 funct3 rd opc) = rs1 := by
  ext i hi; simp [fRs1, encR, place]; interval_cases i <;> simp
@[simp] theorem fRs2_encR : fRs2 (encR top funct7 rs2 rs1 funct3 rd opc) = rs2 := by
  ext i hi; simp [fRs2, encR, place]; interval_cases i <;> simp
@[simp] theorem fFunct7_encR : fFunct7 (encR top funct7 rs2 rs1 funct3 rd opc) = funct7 := by
  ext i hi; simp [fFunct7, encR, place]; interval_cases i <;> simp
@[simp] theorem topBit_encR : topBit (encR top funct7 rs2 rs1 funct3 rd opc) = top := by
  ext i hi; simp [topBit, encR, place]; interval_cases i; simp

end

section
variable (imm : BitVec 12) (rs1 : BitVec 5) (funct3 : BitVec 3) (rd : BitVec 5) (opc : BitVec 7)

@[simp] theorem fOpcode_encI : fOpcode (encI imm rs1 funct3 rd opc) = opc := by
  ext i hi; simp [fOpcode, encI, place]; interval_cases i <;> simp
@[simp] theorem fRd_encI : fRd (encI imm rs1 funct3 rd opc) = rd := by
  ext i hi; simp [fRd, encI, place]; interval_cases i <;> simp
@[simp] theorem fFunct3_encI : fFunct3 (encI imm rs1 funct3 rd opc) = funct3 := by
  ext i hi; simp [fFunct3, encI, place]; interval_cases i <;> simp
@[simp] theorem fRs1_encI : fRs1 (encI imm rs1 funct3 rd opc) = rs1 := by
  ext i hi; simp [fRs1, encI, place]; interval_cases i <;> simp
@[simp] theorem fRs2_encI : fRs2 (encI imm rs1 funct3 rd opc) = imm.extractLsb' 0 5 := by
  ext i hi; simp [fRs2, encI, place]; interval_cases i <;> simp
@[simp] theorem fFunct7_encI : fFunct7 (encI imm rs1 funct3 rd opc) = imm.extractLsb' 5 6 := by
  ext i hi; simp [fFunct7, encI, place]; interval_cases i <;> simp
@[simp] theorem immFieldI_encI : immFieldI (encI imm rs1 funct3 rd opc) = imm := by
  ext i hi; simp [immFieldI, encI, place]; interval_cases i <;> simp

end

section
variable (imm : BitVec 12) (rs2 rs1 : BitVec 5) (funct3 : BitVec 3) (opc : BitVec 7)

@[simp] theorem fOpcode_encS : fOpcode (encS imm rs2 rs1 funct3 opc) = opc := by
  ext i hi; simp [fOpcode, encS, place]; interval_cases i <;> simp
@[simp] theorem fFunct3_encS : fFunct3 (encS imm rs2 rs1 funct3 opc) = funct3 := by
  ext i hi; simp [fFunct3, encS, place]; interval_cases i <;> simp
@[simp] theorem fRs1_encS : fRs1 (encS imm rs2 rs1 funct3 opc) = rs1 := by
  ext i hi; simp [fRs1, encS, place]; interval_cases i <;> simp
@[simp] theorem fRs2_encS : fRs2 (encS imm rs2 rs1 funct3 opc) = rs2 := by
  ext i hi; simp [fRs2, encS, place]; interval_cases i <;> simp
@[simp] theorem fFunct7_encS : fFunct7 (encS imm rs2 rs1 funct3 opc) = imm.extractLsb' 5 6 := by
  ext i hi; simp [fFunct7, encS, place]; interval_cases i <;> simp
@[simp] theorem immFieldS_encS : immFieldS (encS imm rs2 rs1 funct3 opc) = imm := by
  ext i hi; simp [immFieldS, encS, place]; interval_cases i <;> simp

end

section
variable (offset : BitVec 13) (rs2 rs1 : BitVec 5) (funct3 : BitVec 3) (opc : BitVec 7)

@[simp] theorem fOpcode_encB : fOpcode (encB offset rs2 rs1 funct3 opc) = opc := by
  ext i hi; simp [fOpcode, encB, place]; interval_cases i <;> simp
@[simp] theorem fFunct3_encB : fFunct3 (encB offset rs2 rs1 funct3 opc) = funct3 := by
  ext i hi; simp [fFunct3, encB, place]; interval_cases i <;> simp
@[simp] theorem fRs1_encB : fRs1 (encB offset rs2 rs1 funct3 opc) = rs1 := by
  ext i hi; simp [fRs1, encB, place]; interval_cases i <;> simp
@[simp] theorem fRs2_encB : fRs2 (encB offset rs2 rs1 funct3 opc) = rs2 := by
  ext i hi; simp [fRs2, encB, place]; interval_cases i <;> simp
@[simp] theorem fFunct7_encB : fFunct7 (encB offset rs2 rs1 funct3 opc) = offset.extractLsb' 5 6 := by
  ext i hi; simp [fFunct7, encB, place]; interval_cases i <;> simp

end

section
variable (imm : BitVec 20) (rd : BitVec 5) (opc : BitVec 7)

@[simp] theorem fOpcode_encU : fOpcode (encU imm rd opc) = opc := by
  ext i hi; simp [fOpcode, encU, place]; interval_cases i <;> simp
@[simp] theorem fRd_encU : fRd (encU imm rd opc) = rd := by
  ext i hi; simp [fRd, encU, place]; interval_cases i <;> simp
@[simp] theorem fFunct3_encU : fFunct3 (encU imm rd opc) = imm.extractLsb' 0 3 := by
  ext i hi; simp [fFunct3, encU, place]; interval_cases i <;> simp
@[simp] theorem fRs1_encU : fRs1 (encU imm rd opc) = imm.extractLsb' 3 5 := by
  ext i hi; simp [fRs1, encU, place]; interval_cases i <;> simp
@[simp] theorem fRs2_encU : fRs2 (encU imm rd opc) = imm.extractLsb' 8 5 := by
  ext i hi; simp [fRs2, encU, place]; interval_cases i <;> simp
@[simp] theorem fFunct7_encU : fFunct7 (encU imm rd opc) = imm.extractLsb' 13 6 := by
  ext i hi; simp [fFunct7, encU, place]; interval_cases i <;> simp
@[simp] theorem immFieldU_encU : immFieldU (encU imm rd opc) = imm := by
  ext i hi; simp [immFieldU, encU, place]; interval_cases i <;> simp

end

section
variable (offset : BitVec 21) (rd : BitVec 5) (opc : BitVec 7)

@[simp] theorem fOpcode_encJ : fOpcode (encJ offset rd opc) = opc := by
  ext i hi; simp [fOpcode, encJ, place]; interval_cases i <;> simp
@[simp] theorem fRd_encJ : fRd (encJ offset rd opc) = rd := by
  ext i hi; simp [fRd, encJ, place]; interval_cases i <;> simp
@[simp] theorem fFunct3_encJ : fFunct3 (encJ offset rd opc) = offset.extractLsb' 12 3 := by
  ext i hi; simp [fFunct3, encJ, place]; interval_cases i <;> simp
@[simp] theorem fRs1_encJ : fRs1 (encJ offset rd opc) = offset.extractLsb' 15 5 := by
  ext i hi; simp [fRs1, encJ, place]; interval_cases i <;> simp
@[simp] theorem fFunct7_encJ : fFunct7 (encJ offset rd opc) = offset.extractLsb' 5 6 := by
  ext i hi; simp [fFunct7, encJ, place]; interval_cases i <;> simp

end

section
variable (rest : BitVec 25) (opc : BitVec 7)

@[simp] theorem fOpcode_encIll : fOpcode (encIll rest opc) = opc := by
  ext i hi; simp [fOpcode, encIll, place]; interval_cases i <;> simp
@[simp] theorem fFunct3_encIll : fFunct3 (encIll rest opc) = rest.extractLsb' 5 3 := by
  ext i hi; simp [fFunct3, encIll, place]; interval_cases i <;> simp
@[simp] theorem fFunct7_encIll : fFunct7 (encIll rest opc) = rest.extractLsb' 18 6 := by
  ext i hi; simp [fFunct7, encIll, place]; interval_cases i <;> simp
@[simp] theorem aboveOpcode_encIll : aboveOpcode (encIll rest opc) = rest := by
  ext i hi; simp [aboveOpcode, encIll, place]; interval_cases i <;> simp

end

/-! The pieces of an offset, each read back from where its format puts it. -/

theorem piece31_encB (offset : BitVec 13) (rs2 rs1 : BitVec 5) (funct3 : BitVec 3) (opc : BitVec 7) :
    (encB offset rs2 rs1 funct3 opc).extractLsb' 31 1 = offset.extractLsb' 12 1 := by
  ext i hi; simp [encB, place]; interval_cases i; simp
theorem piece7_encB (offset : BitVec 13) (rs2 rs1 : BitVec 5) (funct3 : BitVec 3) (opc : BitVec 7) :
    (encB offset rs2 rs1 funct3 opc).extractLsb' 7 1 = offset.extractLsb' 11 1 := by
  ext i hi; simp [encB, place]; interval_cases i; simp
theorem piece25_encB (offset : BitVec 13) (rs2 rs1 : BitVec 5) (funct3 : BitVec 3) (opc : BitVec 7) :
    (encB offset rs2 rs1 funct3 opc).extractLsb' 25 6 = offset.extractLsb' 5 6 := by
  ext i hi; simp [encB, place]; interval_cases i <;> simp
theorem piece8_encB (offset : BitVec 13) (rs2 rs1 : BitVec 5) (funct3 : BitVec 3) (opc : BitVec 7) :
    (encB offset rs2 rs1 funct3 opc).extractLsb' 8 4 = offset.extractLsb' 1 4 := by
  ext i hi; simp [encB, place]; interval_cases i <;> simp
theorem piece31_encJ (offset : BitVec 21) (rd : BitVec 5) (opc : BitVec 7) :
    (encJ offset rd opc).extractLsb' 31 1 = offset.extractLsb' 20 1 := by
  ext i hi; simp [encJ, place]; interval_cases i; simp
theorem piece12_encJ (offset : BitVec 21) (rd : BitVec 5) (opc : BitVec 7) :
    (encJ offset rd opc).extractLsb' 12 8 = offset.extractLsb' 12 8 := by
  ext i hi; simp [encJ, place]; interval_cases i <;> simp
theorem piece20_encJ (offset : BitVec 21) (rd : BitVec 5) (opc : BitVec 7) :
    (encJ offset rd opc).extractLsb' 20 1 = offset.extractLsb' 11 1 := by
  ext i hi; simp [encJ, place]; interval_cases i; simp
theorem piece21_encJ (offset : BitVec 21) (rd : BitVec 5) (opc : BitVec 7) :
    (encJ offset rd opc).extractLsb' 21 10 = offset.extractLsb' 1 10 := by
  ext i hi; simp [encJ, place]; interval_cases i <;> simp

/-- An even offset survives the B format. -/
theorem offsetB_encB (offset : BitVec 13) (rs2 rs1 : BitVec 5) (funct3 : BitVec 3) (opc : BitVec 7)
    (h : offset.getLsbD 0 = false) : offsetB (encB offset rs2 rs1 funct3 opc) = offset := by
  rw [offsetB, piece31_encB, piece7_encB, piece25_encB, piece8_encB]
  ext i hi; simp; interval_cases i <;> simp_all

/-- An even offset survives the J format. -/
theorem offsetJ_encJ (offset : BitVec 21) (rd : BitVec 5) (opc : BitVec 7)
    (h : offset.getLsbD 0 = false) : offsetJ (encJ offset rd opc) = offset := by
  rw [offsetJ, piece31_encJ, piece12_encJ, piece20_encJ, piece21_encJ]
  ext i hi; simp; interval_cases i <;> simp_all

/-! The word of each instruction. -/

section
variable (rd rs1 rs2 dest : BitVec 5) (funct3 : BitVec 3) (imm : BitVec 12)
@[simp] theorem encode_lui (imm : BitVec 20) : encode (.lui rd imm) = encU imm rd 0x37#7 := rfl
@[simp] theorem encode_auipc (imm : BitVec 20) : encode (.auipc rd imm) = encU imm rd 0x17#7 := rfl
@[simp] theorem encode_jal (offset : BitVec 21) : encode (.jal rd offset) = encJ offset rd 0x6f#7 := rfl
@[simp] theorem encode_jalr : encode (.jalr rd rs1 funct3 imm) = encI imm rs1 funct3 rd 0x67#7 := rfl
@[simp] theorem encode_branch (offset : BitVec 13) :
    encode (.branch rs1 rs2 funct3 offset) = encB offset rs2 rs1 funct3 0x63#7 := rfl
@[simp] theorem encode_load : encode (.load rd rs1 funct3 imm) = encI imm rs1 funct3 rd 0x03#7 := rfl
@[simp] theorem encode_store : encode (.store rs1 rs2 funct3 imm) = encS imm rs2 rs1 funct3 0x23#7 := rfl
@[simp] theorem encode_opImmF0 : encode (.opImmF0 rd rs1 imm) = encI imm rs1 0#3 rd 0x13#7 := rfl
@[simp] theorem encode_opImmF1 : encode (.opImmF1 rd rs1 imm) = encI imm rs1 1#3 rd 0x13#7 := rfl
@[simp] theorem encode_opImmF2 : encode (.opImmF2 rd rs1 imm) = encI imm rs1 2#3 rd 0x13#7 := rfl
@[simp] theorem encode_opImmF3 : encode (.opImmF3 rd rs1 imm) = encI imm rs1 3#3 rd 0x13#7 := rfl
@[simp] theorem encode_opImmF4 : encode (.opImmF4 rd rs1 imm) = encI imm rs1 4#3 rd 0x13#7 := rfl
@[simp] theorem encode_opImmF5 : encode (.opImmF5 rd rs1 imm) = encI imm rs1 5#3 rd 0x13#7 := rfl
@[simp] theorem encode_opImmF6 : encode (.opImmF6 rd rs1 imm) = encI imm rs1 6#3 rd 0x13#7 := rfl
@[simp] theorem encode_opImmF7 : encode (.opImmF7 rd rs1 imm) = encI imm rs1 7#3 rd 0x13#7 := rfl
@[simp] theorem encode_op (funct7 : BitVec 6) (top : BitVec 1) :
    encode (.op rd rs1 rs2 funct3 funct7 top) = encR top funct7 rs2 rs1 funct3 rd 0x33#7 := rfl
@[simp] theorem encode_miscMem : encode (.miscMem dest rs1 funct3 imm) = encI imm rs1 funct3 dest 0x0f#7 := rfl
@[simp] theorem encode_system : encode (.system dest rs1 funct3 imm) = encI imm rs1 funct3 dest 0x73#7 := rfl
end

/-- A word is decoded by the row its opcode selects. -/
theorem decodeInstr_eq_row {w : Word} {opc : BitVec 7} {row : Word → Instr} (h : fOpcode w = opc)
    (hr : opcodeRow opc = row) : decodeInstr w = row w := by
  rw [decodeInstr, h, hr]

theorem opcodeRow_37 : opcodeRow 0x37#7 = decodeLui := rfl
theorem opcodeRow_17 : opcodeRow 0x17#7 = decodeAuipc := rfl
theorem opcodeRow_6f : opcodeRow 0x6f#7 = decodeJal := rfl
theorem opcodeRow_67 : opcodeRow 0x67#7 = decodeJalr := rfl
theorem opcodeRow_63 : opcodeRow 0x63#7 = decodeBranch := rfl
theorem opcodeRow_03 : opcodeRow 0x03#7 = decodeLoad := rfl
theorem opcodeRow_23 : opcodeRow 0x23#7 = decodeStore := rfl
theorem opcodeRow_13 : opcodeRow 0x13#7 = decodeOpImm := rfl
theorem opcodeRow_33 : opcodeRow 0x33#7 = decodeOp := rfl
theorem opcodeRow_0f : opcodeRow 0x0f#7 = decodeMiscMem := rfl
theorem opcodeRow_73 : opcodeRow 0x73#7 = decodeSystem := rfl

end Sys2Proof
end

