-- ==== Sys2Proof/Laws/Operands.lean ====
section
/-! SUPPORT. What the immediate resolver reads from a word of the format it belongs to, and what the index helpers do. -/

namespace Sys2Proof.Machine

/-- The signed I immediate is the sign extension of the field the I format carries. -/
theorem immI_s_eq_field (w : Word) : immI_s w = (immFieldI w).signExtend 32 := by
  have hb : (immI_z w).getLsbD 11 = w.getLsbD 31 := by simp [immI_z]
  rw [immI_s, hb]
  ext i hi
  cases h : w.getLsbD 31 <;>
    (simp [immI_z, immFieldI, BitVec.getElem_signExtend, BitVec.msb_eq_getLsbD_last]; interval_cases i <;> simp_all)

/-- The signed S immediate is the sign extension of the field the S format carries. -/
theorem immS_s_eq_field (w : Word) : immS_s w = (immFieldS w).signExtend 32 := by
  have hb : (immS_z w).getLsbD 11 = w.getLsbD 31 := by simp [immS_z]
  rw [immS_s, hb]
  ext i hi
  cases h : w.getLsbD 31 <;>
    (simp [immS_z, immFieldS, BitVec.getElem_signExtend, BitVec.msb_eq_getLsbD_last]; interval_cases i <;> simp_all)

/-- The signed B immediate is the sign extension of the field the B format carries. -/
theorem immB_s_eq_field (w : Word) : immB_s w = (offsetB w).signExtend 32 := by
  have hb : (immB_z w).getLsbD 12 = w.getLsbD 31 := by simp [immB_z]
  rw [immB_s, hb]
  ext i hi
  cases h : w.getLsbD 31 <;>
    (simp [immB_z, offsetB, BitVec.getElem_signExtend, BitVec.msb_eq_getLsbD_last]; interval_cases i <;> simp_all)

/-- The signed J immediate is the sign extension of the field the J format carries. -/
theorem immJ_s_eq_field (w : Word) : immJ_s w = (offsetJ w).signExtend 32 := by
  have hb : (immJ_z w).getLsbD 20 = w.getLsbD 31 := by simp [immJ_z]
  rw [immJ_s, hb]
  ext i hi
  cases h : w.getLsbD 31 <;>
    (simp [immJ_z, offsetJ, BitVec.getElem_signExtend, BitVec.msb_eq_getLsbD_last]; interval_cases i <;> simp_all)

@[simp] theorem immI_s_encI (imm : BitVec 12) (rs1 : BitVec 5) (funct3 : BitVec 3) (rd : BitVec 5) (opc : BitVec 7) :
    immI_s (encI imm rs1 funct3 rd opc) = imm.signExtend 32 := by rw [immI_s_eq_field, immFieldI_encI]

@[simp] theorem immS_s_encS (imm : BitVec 12) (rs2 rs1 : BitVec 5) (funct3 : BitVec 3) (opc : BitVec 7) :
    immS_s (encS imm rs2 rs1 funct3 opc) = imm.signExtend 32 := by rw [immS_s_eq_field, immFieldS_encS]

theorem immB_s_encB (offset : BitVec 13) (rs2 rs1 : BitVec 5) (funct3 : BitVec 3) (opc : BitVec 7) (h : offset.getLsbD 0 = false) :
    immB_s (encB offset rs2 rs1 funct3 opc) = offset.signExtend 32 := by rw [immB_s_eq_field, offsetB_encB _ _ _ _ _ h]

theorem immJ_s_encJ (offset : BitVec 21) (rd : BitVec 5) (opc : BitVec 7) (h : offset.getLsbD 0 = false) :
    immJ_s (encJ offset rd opc) = offset.signExtend 32 := by rw [immJ_s_eq_field, offsetJ_encJ _ _ _ h]

/-- The U immediate stands in the upper twenty bits. -/
@[simp] theorem immU_z_encU (imm : BitVec 20) (rd : BitVec 5) (opc : BitVec 7) :
    immU_z (encU imm rd opc) = imm.setWidth 32 <<< 12 := by
  ext i hi
  simp [immU_z, encU, place]
  interval_cases i <;> simp

/-- A raw index is below 32, so it is no sentinel. -/
theorem rawIndex_lt (f : BitVec 5) : (rawIndex f).toNat < 32 := by
  have := f.isLt
  simp [rawIndex]; omega

theorem rawIndex_injective {f g : BitVec 5} (h : rawIndex f = rawIndex g) : f = g := by
  have h' := congrArg BitVec.toNat h
  have hf := f.isLt
  have hg := g.isLt
  simp only [rawIndex, BitVec.toNat_setWidth] at h'
  exact BitVec.eq_of_toNat_eq (by omega)

/-! What the extractor and the resolver answer, field by field. -/

section
variable (w : Word)
@[simp] theorem extract_opcode : (extract w).opcode = fOpcode w := rfl
@[simp] theorem extract_rd : (extract w).rd = fRd w := rfl
@[simp] theorem extract_funct3 : (extract w).funct3 = fFunct3 w := rfl
@[simp] theorem extract_rs1 : (extract w).rs1 = fRs1 w := rfl
@[simp] theorem extract_rs2 : (extract w).rs2 = fRs2 w := rfl
@[simp] theorem extract_funct7 : (extract w).funct7 = fFunct7 w := rfl
@[simp] theorem resolve_immI_z : (resolve w).immI_z = immI_z w := rfl
@[simp] theorem resolve_immI_s : (resolve w).immI_s = immI_s w := rfl
@[simp] theorem resolve_immS_z : (resolve w).immS_z = immS_z w := rfl
@[simp] theorem resolve_immS_s : (resolve w).immS_s = immS_s w := rfl
@[simp] theorem resolve_immU_z : (resolve w).immU_z = immU_z w := rfl
@[simp] theorem resolve_immB_z : (resolve w).immB_z = immB_z w := rfl
@[simp] theorem resolve_immB_s : (resolve w).immB_s = immB_s w := rfl
@[simp] theorem resolve_immJ_z : (resolve w).immJ_z = immJ_z w := rfl
@[simp] theorem resolve_immJ_s : (resolve w).immJ_s = immJ_s w := rfl
end

end Sys2Proof.Machine
end

