-- ==== Sys2Proof/Laws/State.lean ====
section
/-! SUPPORT. One lemma per field of State per update, so that no proof unfolds a record update. -/

namespace Sys2Proof.Machine

@[simp] theorem State.drive_word (s : State) (r : Instruction) : (s.drive r).word = s.word := rfl
@[simp] theorem State.drive_out (s : State) (r : Instruction) : (s.drive r).out = r := rfl
@[simp] theorem State.drive_held (s : State) (r : Instruction) : (s.drive r).held = s.held := rfl
@[simp] theorem State.present_word (s : State) (w : Word) : (s.present w).word = w := rfl
@[simp] theorem State.present_out (s : State) (w : Word) : (s.present w).out = decodeRecord w := rfl
@[simp] theorem State.present_held (s : State) (w : Word) : (s.present w).held = s.held := rfl

theorem State.drive_eq (s : State) (r : Instruction) : s.drive r = { word := s.word, out := r } := rfl
theorem State.present_eq (s : State) (w : Word) : s.present w = { word := w, out := decodeRecord w } := rfl

/-- The block's own state takes one value, so two states are equal as soon as the ports are. -/
theorem State.eq_of_ports {s t : State} (hw : s.word = t.word) (ho : s.out = t.out) : s = t := by
  cases s
  cases t
  cases hw
  cases ho
  rfl

end Sys2Proof.Machine
end

