-- ==== Sys2Proof/Laws/Ops.lean ====
section
/-! SUPPORT. Everything the shared operation of the meanings can do. -/

namespace Sys2Proof.Machine

/-- A handler's run always answers a next state: the input as it was, the handler's record on the outputs. -/
theorem runHandler_eq (h : RawFields → Immediates → Instruction) (i : Instr) (s : State) :
    runHandler h i s = .next { word := s.word, out := h (extract (encode i)) (resolve (encode i)) } := rfl

/-- If a handler's run answers `t`, then `t` is that state and no other. -/
theorem runHandler_next {h : RawFields → Immediates → Instruction} {i : Instr} {s t : State}
    (e : runHandler h i s = .next t) :
    t.held = s.held ∧ t.word = s.word ∧ t.out = h (extract (encode i)) (resolve (encode i)) := by
  cases e
  exact ⟨rfl, rfl, rfl⟩

end Sys2Proof.Machine
end

