-- ==== Sys2Proof/Laws/Decoder.lean ====
section
/-! SUPPORT. The handler each opcode selects, said once, so that no proof unfolds the selection again. -/

namespace Sys2Proof.Machine

/-- The record of a word whose class is known. -/
theorem decodeRecord_of_class {w : Word} {c : HandlerClass} (h : handlerClass (fOpcode w) = c) :
    decodeRecord w = handlerOf c (extract w) (resolve w) := by
  rw [decodeRecord, h]

/-- The record of a word whose opcode is known. -/
theorem decodeRecord_of_opcode {w : Word} {opc : BitVec 7} {c : HandlerClass} (h : fOpcode w = opc)
    (hc : handlerClass opc = c) : decodeRecord w = handlerOf c (extract w) (resolve w) :=
  decodeRecord_of_class (by rw [h, hc])

/-- An opcode is one of the eleven, or it is unrecognised. -/
theorem opcode_cases (opc : BitVec 7) :
    opc = 0x37#7 ∨ opc = 0x17#7 ∨ opc = 0x6f#7 ∨ opc = 0x67#7 ∨ opc = 0x63#7 ∨ opc = 0x03#7 ∨ opc = 0x23#7 ∨
      opc = 0x13#7 ∨ opc = 0x33#7 ∨ opc = 0x0f#7 ∨ opc = 0x73#7 ∨ recognised opc = false := by
  cases h : recognised opc with
  | false => simp
  | true =>
    simp only [recognised, List.contains_eq_mem, decide_eq_true_eq, List.mem_cons, List.not_mem_nil, or_false] at h
    rcases h with h | h | h | h | h | h | h | h | h | h | h <;> subst h <;> decide

/-- What an unrecognised opcode is not. -/
theorem ne_of_unrecognised {opc : BitVec 7} (h : recognised opc = false) :
    opc ≠ 0x37#7 ∧ opc ≠ 0x17#7 ∧ opc ≠ 0x6f#7 ∧ opc ≠ 0x67#7 ∧ opc ≠ 0x63#7 ∧ opc ≠ 0x03#7 ∧ opc ≠ 0x23#7 ∧
      opc ≠ 0x13#7 ∧ opc ≠ 0x33#7 ∧ opc ≠ 0x0f#7 ∧ opc ≠ 0x73#7 := by
  simpa [recognised] using h

theorem handlerClass_of_unrecognised {opc : BitVec 7} (h : recognised opc = false) : handlerClass opc = .ILLEGAL := by
  obtain ⟨h1, h2, h3, h4, h5, h6, h7, h8, h9, h10, h11⟩ := ne_of_unrecognised h
  simp only [handlerClass, h1, h2, h3, h4, h5, h6, h7, h8, h9, h10, h11, if_false]

/-! A handler's run drives the word's own record when the handler is the one the word's opcode selects. -/

theorem runHandler_decodeRecord {h : RawFields → Immediates → Instruction} {i : Instr} {opc : BitVec 7} (s : State)
    (ho : fOpcode (encode i) = opc) (hc : handlerOf (handlerClass opc) = h) :
    runHandler h i s = .next { word := s.word, out := decodeRecord (encode i) } := by
  rw [runHandler_eq, decodeRecord, ho, hc]

end Sys2Proof.Machine
end

