-- ==== Sys2Proof/Laws/PerInstr.lean ====
section
/-! SUPPORT. Statements about every instruction, one lemma per constructor.  Family RoundTrip: the decoder reads back a well-formed
instruction's word as that instruction. -/

namespace Sys2Proof.Laws.RoundTrip

def Statement (i : Instr) : Prop := i.wellFormed = true → decodeInstr (encode i) = i

/-- How a row's lemma is built: the word, its opcode, the row, and what the row reads. -/
theorem of_row {i : Instr} {w : Word} {opc : BitVec 7} {row : Word → Instr} (he : encode i = w) (ho : fOpcode w = opc)
    (hr : opcodeRow opc = row) (hd : i.wellFormed = true → row w = i) : Statement i := fun h => by
  rw [he, decodeInstr_eq_row ho hr, hd h]

theorem lui (rd : BitVec 5) (imm : BitVec 20) : Statement (.lui rd imm) :=
  of_row (encode_lui ..) (fOpcode_encU ..) opcodeRow_37 fun _ => by simp [decodeLui]

theorem auipc (rd : BitVec 5) (imm : BitVec 20) : Statement (.auipc rd imm) :=
  of_row (encode_auipc ..) (fOpcode_encU ..) opcodeRow_17 fun _ => by simp [decodeAuipc]

theorem jal (rd : BitVec 5) (offset : BitVec 21) : Statement (.jal rd offset) :=
  of_row (encode_jal ..) (fOpcode_encJ ..) opcodeRow_6f fun h => by simp [decodeJal, offsetJ_encJ _ _ _ (by simpa [Instr.wellFormed] using h)]

theorem jalr (rd rs1 : BitVec 5) (funct3 : BitVec 3) (imm : BitVec 12) : Statement (.jalr rd rs1 funct3 imm) :=
  of_row (encode_jalr ..) (fOpcode_encI ..) opcodeRow_67 fun _ => by simp [decodeJalr]

theorem branch (rs1 rs2 : BitVec 5) (funct3 : BitVec 3) (offset : BitVec 13) : Statement (.branch rs1 rs2 funct3 offset) :=
  of_row (encode_branch ..) (fOpcode_encB ..) opcodeRow_63 fun h => by simp [decodeBranch, offsetB_encB _ _ _ _ _ (by simpa [Instr.wellFormed] using h)]

theorem load (rd rs1 : BitVec 5) (funct3 : BitVec 3) (imm : BitVec 12) : Statement (.load rd rs1 funct3 imm) :=
  of_row (encode_load ..) (fOpcode_encI ..) opcodeRow_03 fun _ => by simp [decodeLoad]

theorem store (rs1 rs2 : BitVec 5) (funct3 : BitVec 3) (imm : BitVec 12) : Statement (.store rs1 rs2 funct3 imm) :=
  of_row (encode_store ..) (fOpcode_encS ..) opcodeRow_23 fun _ => by simp [decodeStore]

theorem opImmF0 (rd rs1 : BitVec 5) (imm : BitVec 12) : Statement (.opImmF0 rd rs1 imm) :=
  of_row (encode_opImmF0 ..) (fOpcode_encI ..) opcodeRow_13 fun _ => by
    rw [decodeOpImm, fFunct3_encI, fRd_encI, fRs1_encI, immFieldI_encI]; rfl

theorem opImmF1 (rd rs1 : BitVec 5) (imm : BitVec 12) : Statement (.opImmF1 rd rs1 imm) :=
  of_row (encode_opImmF1 ..) (fOpcode_encI ..) opcodeRow_13 fun _ => by
    rw [decodeOpImm, fFunct3_encI, fRd_encI, fRs1_encI, immFieldI_encI]; rfl

theorem opImmF2 (rd rs1 : BitVec 5) (imm : BitVec 12) : Statement (.opImmF2 rd rs1 imm) :=
  of_row (encode_opImmF2 ..) (fOpcode_encI ..) opcodeRow_13 fun _ => by
    rw [decodeOpImm, fFunct3_encI, fRd_encI, fRs1_encI, immFieldI_encI]; rfl

theorem opImmF3 (rd rs1 : BitVec 5) (imm : BitVec 12) : Statement (.opImmF3 rd rs1 imm) :=
  of_row (encode_opImmF3 ..) (fOpcode_encI ..) opcodeRow_13 fun _ => by
    rw [decodeOpImm, fFunct3_encI, fRd_encI, fRs1_encI, immFieldI_encI]; rfl

theorem opImmF4 (rd rs1 : BitVec 5) (imm : BitVec 12) : Statement (.opImmF4 rd rs1 imm) :=
  of_row (encode_opImmF4 ..) (fOpcode_encI ..) opcodeRow_13 fun _ => by
    rw [decodeOpImm, fFunct3_encI, fRd_encI, fRs1_encI, immFieldI_encI]; rfl

theorem opImmF5 (rd rs1 : BitVec 5) (imm : BitVec 12) : Statement (.opImmF5 rd rs1 imm) :=
  of_row (encode_opImmF5 ..) (fOpcode_encI ..) opcodeRow_13 fun _ => by
    rw [decodeOpImm, fFunct3_encI, fRd_encI, fRs1_encI, immFieldI_encI]; rfl

theorem opImmF6 (rd rs1 : BitVec 5) (imm : BitVec 12) : Statement (.opImmF6 rd rs1 imm) :=
  of_row (encode_opImmF6 ..) (fOpcode_encI ..) opcodeRow_13 fun _ => by
    rw [decodeOpImm, fFunct3_encI, fRd_encI, fRs1_encI, immFieldI_encI]; rfl

theorem opImmF7 (rd rs1 : BitVec 5) (imm : BitVec 12) : Statement (.opImmF7 rd rs1 imm) :=
  of_row (encode_opImmF7 ..) (fOpcode_encI ..) opcodeRow_13 fun _ => by
    rw [decodeOpImm, fFunct3_encI, fRd_encI, fRs1_encI, immFieldI_encI]; rfl

theorem op (rd rs1 rs2 : BitVec 5) (funct3 : BitVec 3) (funct7 : BitVec 6) (top : BitVec 1) : Statement (.op rd rs1 rs2 funct3 funct7 top) :=
  of_row (encode_op ..) (fOpcode_encR ..) opcodeRow_33 fun _ => by simp [decodeOp]

theorem miscMem (dest rs1 : BitVec 5) (funct3 : BitVec 3) (imm : BitVec 12) : Statement (.miscMem dest rs1 funct3 imm) :=
  of_row (encode_miscMem ..) (fOpcode_encI ..) opcodeRow_0f fun _ => by simp [decodeMiscMem]

theorem system (dest rs1 : BitVec 5) (funct3 : BitVec 3) (imm : BitVec 12) : Statement (.system dest rs1 funct3 imm) :=
  of_row (encode_system ..) (fOpcode_encI ..) opcodeRow_73 fun _ => by simp [decodeSystem]

/-- An unrecognised opcode's word is read by its own row. -/
theorem of_illegal_row {row : BitVec 25 → Instr} {rest : BitVec 25} {opc : BitVec 7} (he : encode (row rest) = encIll rest opc)
    (hr : opcodeRow opc = ill row) : Statement (row rest) :=
  of_row he (fOpcode_encIll ..) hr fun _ => by rw [ill, aboveOpcode_encIll]

theorem illegal00 (rest : BitVec 25) : Statement (.illegal00 rest) := of_illegal_row (row := .illegal00) rfl rfl
theorem illegal01 (rest : BitVec 25) : Statement (.illegal01 rest) := of_illegal_row (row := .illegal01) rfl rfl
theorem illegal02 (rest : BitVec 25) : Statement (.illegal02 rest) := of_illegal_row (row := .illegal02) rfl rfl
theorem illegal04 (rest : BitVec 25) : Statement (.illegal04 rest) := of_illegal_row (row := .illegal04) rfl rfl
theorem illegal05 (rest : BitVec 25) : Statement (.illegal05 rest) := of_illegal_row (row := .illegal05) rfl rfl
theorem illegal06 (rest : BitVec 25) : Statement (.illegal06 rest) := of_illegal_row (row := .illegal06) rfl rfl
theorem illegal07 (rest : BitVec 25) : Statement (.illegal07 rest) := of_illegal_row (row := .illegal07) rfl rfl
theorem illegal08 (rest : BitVec 25) : Statement (.illegal08 rest) := of_illegal_row (row := .illegal08) rfl rfl
theorem illegal09 (rest : BitVec 25) : Statement (.illegal09 rest) := of_illegal_row (row := .illegal09) rfl rfl
theorem illegal0A (rest : BitVec 25) : Statement (.illegal0A rest) := of_illegal_row (row := .illegal0A) rfl rfl
theorem illegal0B (rest : BitVec 25) : Statement (.illegal0B rest) := of_illegal_row (row := .illegal0B) rfl rfl
theorem illegal0C (rest : BitVec 25) : Statement (.illegal0C rest) := of_illegal_row (row := .illegal0C) rfl rfl
theorem illegal0D (rest : BitVec 25) : Statement (.illegal0D rest) := of_illegal_row (row := .illegal0D) rfl rfl
theorem illegal0E (rest : BitVec 25) : Statement (.illegal0E rest) := of_illegal_row (row := .illegal0E) rfl rfl
theorem illegal10 (rest : BitVec 25) : Statement (.illegal10 rest) := of_illegal_row (row := .illegal10) rfl rfl
theorem illegal11 (rest : BitVec 25) : Statement (.illegal11 rest) := of_illegal_row (row := .illegal11) rfl rfl
theorem illegal12 (rest : BitVec 25) : Statement (.illegal12 rest) := of_illegal_row (row := .illegal12) rfl rfl
theorem illegal14 (rest : BitVec 25) : Statement (.illegal14 rest) := of_illegal_row (row := .illegal14) rfl rfl
theorem illegal15 (rest : BitVec 25) : Statement (.illegal15 rest) := of_illegal_row (row := .illegal15) rfl rfl
theorem illegal16 (rest : BitVec 25) : Statement (.illegal16 rest) := of_illegal_row (row := .illegal16) rfl rfl
theorem illegal18 (rest : BitVec 25) : Statement (.illegal18 rest) := of_illegal_row (row := .illegal18) rfl rfl
theorem illegal19 (rest : BitVec 25) : Statement (.illegal19 rest) := of_illegal_row (row := .illegal19) rfl rfl
theorem illegal1A (rest : BitVec 25) : Statement (.illegal1A rest) := of_illegal_row (row := .illegal1A) rfl rfl
theorem illegal1B (rest : BitVec 25) : Statement (.illegal1B rest) := of_illegal_row (row := .illegal1B) rfl rfl
theorem illegal1C (rest : BitVec 25) : Statement (.illegal1C rest) := of_illegal_row (row := .illegal1C) rfl rfl
theorem illegal1D (rest : BitVec 25) : Statement (.illegal1D rest) := of_illegal_row (row := .illegal1D) rfl rfl
theorem illegal1E (rest : BitVec 25) : Statement (.illegal1E rest) := of_illegal_row (row := .illegal1E) rfl rfl
theorem illegal1F (rest : BitVec 25) : Statement (.illegal1F rest) := of_illegal_row (row := .illegal1F) rfl rfl
theorem illegal20 (rest : BitVec 25) : Statement (.illegal20 rest) := of_illegal_row (row := .illegal20) rfl rfl
theorem illegal21 (rest : BitVec 25) : Statement (.illegal21 rest) := of_illegal_row (row := .illegal21) rfl rfl
theorem illegal22 (rest : BitVec 25) : Statement (.illegal22 rest) := of_illegal_row (row := .illegal22) rfl rfl
theorem illegal24 (rest : BitVec 25) : Statement (.illegal24 rest) := of_illegal_row (row := .illegal24) rfl rfl
theorem illegal25 (rest : BitVec 25) : Statement (.illegal25 rest) := of_illegal_row (row := .illegal25) rfl rfl
theorem illegal26 (rest : BitVec 25) : Statement (.illegal26 rest) := of_illegal_row (row := .illegal26) rfl rfl
theorem illegal27 (rest : BitVec 25) : Statement (.illegal27 rest) := of_illegal_row (row := .illegal27) rfl rfl
theorem illegal28 (rest : BitVec 25) : Statement (.illegal28 rest) := of_illegal_row (row := .illegal28) rfl rfl
theorem illegal29 (rest : BitVec 25) : Statement (.illegal29 rest) := of_illegal_row (row := .illegal29) rfl rfl
theorem illegal2A (rest : BitVec 25) : Statement (.illegal2A rest) := of_illegal_row (row := .illegal2A) rfl rfl
theorem illegal2B (rest : BitVec 25) : Statement (.illegal2B rest) := of_illegal_row (row := .illegal2B) rfl rfl
theorem illegal2C (rest : BitVec 25) : Statement (.illegal2C rest) := of_illegal_row (row := .illegal2C) rfl rfl
theorem illegal2D (rest : BitVec 25) : Statement (.illegal2D rest) := of_illegal_row (row := .illegal2D) rfl rfl
theorem illegal2E (rest : BitVec 25) : Statement (.illegal2E rest) := of_illegal_row (row := .illegal2E) rfl rfl
theorem illegal2F (rest : BitVec 25) : Statement (.illegal2F rest) := of_illegal_row (row := .illegal2F) rfl rfl
theorem illegal30 (rest : BitVec 25) : Statement (.illegal30 rest) := of_illegal_row (row := .illegal30) rfl rfl
theorem illegal31 (rest : BitVec 25) : Statement (.illegal31 rest) := of_illegal_row (row := .illegal31) rfl rfl
theorem illegal32 (rest : BitVec 25) : Statement (.illegal32 rest) := of_illegal_row (row := .illegal32) rfl rfl
theorem illegal34 (rest : BitVec 25) : Statement (.illegal34 rest) := of_illegal_row (row := .illegal34) rfl rfl
theorem illegal35 (rest : BitVec 25) : Statement (.illegal35 rest) := of_illegal_row (row := .illegal35) rfl rfl
theorem illegal36 (rest : BitVec 25) : Statement (.illegal36 rest) := of_illegal_row (row := .illegal36) rfl rfl
theorem illegal38 (rest : BitVec 25) : Statement (.illegal38 rest) := of_illegal_row (row := .illegal38) rfl rfl
theorem illegal39 (rest : BitVec 25) : Statement (.illegal39 rest) := of_illegal_row (row := .illegal39) rfl rfl
theorem illegal3A (rest : BitVec 25) : Statement (.illegal3A rest) := of_illegal_row (row := .illegal3A) rfl rfl
theorem illegal3B (rest : BitVec 25) : Statement (.illegal3B rest) := of_illegal_row (row := .illegal3B) rfl rfl
theorem illegal3C (rest : BitVec 25) : Statement (.illegal3C rest) := of_illegal_row (row := .illegal3C) rfl rfl
theorem illegal3D (rest : BitVec 25) : Statement (.illegal3D rest) := of_illegal_row (row := .illegal3D) rfl rfl
theorem illegal3E (rest : BitVec 25) : Statement (.illegal3E rest) := of_illegal_row (row := .illegal3E) rfl rfl
theorem illegal3F (rest : BitVec 25) : Statement (.illegal3F rest) := of_illegal_row (row := .illegal3F) rfl rfl
theorem illegal40 (rest : BitVec 25) : Statement (.illegal40 rest) := of_illegal_row (row := .illegal40) rfl rfl
theorem illegal41 (rest : BitVec 25) : Statement (.illegal41 rest) := of_illegal_row (row := .illegal41) rfl rfl
theorem illegal42 (rest : BitVec 25) : Statement (.illegal42 rest) := of_illegal_row (row := .illegal42) rfl rfl
theorem illegal43 (rest : BitVec 25) : Statement (.illegal43 rest) := of_illegal_row (row := .illegal43) rfl rfl
theorem illegal44 (rest : BitVec 25) : Statement (.illegal44 rest) := of_illegal_row (row := .illegal44) rfl rfl
theorem illegal45 (rest : BitVec 25) : Statement (.illegal45 rest) := of_illegal_row (row := .illegal45) rfl rfl
theorem illegal46 (rest : BitVec 25) : Statement (.illegal46 rest) := of_illegal_row (row := .illegal46) rfl rfl
theorem illegal47 (rest : BitVec 25) : Statement (.illegal47 rest) := of_illegal_row (row := .illegal47) rfl rfl
theorem illegal48 (rest : BitVec 25) : Statement (.illegal48 rest) := of_illegal_row (row := .illegal48) rfl rfl
theorem illegal49 (rest : BitVec 25) : Statement (.illegal49 rest) := of_illegal_row (row := .illegal49) rfl rfl
theorem illegal4A (rest : BitVec 25) : Statement (.illegal4A rest) := of_illegal_row (row := .illegal4A) rfl rfl
theorem illegal4B (rest : BitVec 25) : Statement (.illegal4B rest) := of_illegal_row (row := .illegal4B) rfl rfl
theorem illegal4C (rest : BitVec 25) : Statement (.illegal4C rest) := of_illegal_row (row := .illegal4C) rfl rfl
theorem illegal4D (rest : BitVec 25) : Statement (.illegal4D rest) := of_illegal_row (row := .illegal4D) rfl rfl
theorem illegal4E (rest : BitVec 25) : Statement (.illegal4E rest) := of_illegal_row (row := .illegal4E) rfl rfl
theorem illegal4F (rest : BitVec 25) : Statement (.illegal4F rest) := of_illegal_row (row := .illegal4F) rfl rfl
theorem illegal50 (rest : BitVec 25) : Statement (.illegal50 rest) := of_illegal_row (row := .illegal50) rfl rfl
theorem illegal51 (rest : BitVec 25) : Statement (.illegal51 rest) := of_illegal_row (row := .illegal51) rfl rfl
theorem illegal52 (rest : BitVec 25) : Statement (.illegal52 rest) := of_illegal_row (row := .illegal52) rfl rfl
theorem illegal53 (rest : BitVec 25) : Statement (.illegal53 rest) := of_illegal_row (row := .illegal53) rfl rfl
theorem illegal54 (rest : BitVec 25) : Statement (.illegal54 rest) := of_illegal_row (row := .illegal54) rfl rfl
theorem illegal55 (rest : BitVec 25) : Statement (.illegal55 rest) := of_illegal_row (row := .illegal55) rfl rfl
theorem illegal56 (rest : BitVec 25) : Statement (.illegal56 rest) := of_illegal_row (row := .illegal56) rfl rfl
theorem illegal57 (rest : BitVec 25) : Statement (.illegal57 rest) := of_illegal_row (row := .illegal57) rfl rfl
theorem illegal58 (rest : BitVec 25) : Statement (.illegal58 rest) := of_illegal_row (row := .illegal58) rfl rfl
theorem illegal59 (rest : BitVec 25) : Statement (.illegal59 rest) := of_illegal_row (row := .illegal59) rfl rfl
theorem illegal5A (rest : BitVec 25) : Statement (.illegal5A rest) := of_illegal_row (row := .illegal5A) rfl rfl
theorem illegal5B (rest : BitVec 25) : Statement (.illegal5B rest) := of_illegal_row (row := .illegal5B) rfl rfl
theorem illegal5C (rest : BitVec 25) : Statement (.illegal5C rest) := of_illegal_row (row := .illegal5C) rfl rfl
theorem illegal5D (rest : BitVec 25) : Statement (.illegal5D rest) := of_illegal_row (row := .illegal5D) rfl rfl
theorem illegal5E (rest : BitVec 25) : Statement (.illegal5E rest) := of_illegal_row (row := .illegal5E) rfl rfl
theorem illegal5F (rest : BitVec 25) : Statement (.illegal5F rest) := of_illegal_row (row := .illegal5F) rfl rfl
theorem illegal60 (rest : BitVec 25) : Statement (.illegal60 rest) := of_illegal_row (row := .illegal60) rfl rfl
theorem illegal61 (rest : BitVec 25) : Statement (.illegal61 rest) := of_illegal_row (row := .illegal61) rfl rfl
theorem illegal62 (rest : BitVec 25) : Statement (.illegal62 rest) := of_illegal_row (row := .illegal62) rfl rfl
theorem illegal64 (rest : BitVec 25) : Statement (.illegal64 rest) := of_illegal_row (row := .illegal64) rfl rfl
theorem illegal65 (rest : BitVec 25) : Statement (.illegal65 rest) := of_illegal_row (row := .illegal65) rfl rfl
theorem illegal66 (rest : BitVec 25) : Statement (.illegal66 rest) := of_illegal_row (row := .illegal66) rfl rfl
theorem illegal68 (rest : BitVec 25) : Statement (.illegal68 rest) := of_illegal_row (row := .illegal68) rfl rfl
theorem illegal69 (rest : BitVec 25) : Statement (.illegal69 rest) := of_illegal_row (row := .illegal69) rfl rfl
theorem illegal6A (rest : BitVec 25) : Statement (.illegal6A rest) := of_illegal_row (row := .illegal6A) rfl rfl
theorem illegal6B (rest : BitVec 25) : Statement (.illegal6B rest) := of_illegal_row (row := .illegal6B) rfl rfl
theorem illegal6C (rest : BitVec 25) : Statement (.illegal6C rest) := of_illegal_row (row := .illegal6C) rfl rfl
theorem illegal6D (rest : BitVec 25) : Statement (.illegal6D rest) := of_illegal_row (row := .illegal6D) rfl rfl
theorem illegal6E (rest : BitVec 25) : Statement (.illegal6E rest) := of_illegal_row (row := .illegal6E) rfl rfl
theorem illegal70 (rest : BitVec 25) : Statement (.illegal70 rest) := of_illegal_row (row := .illegal70) rfl rfl
theorem illegal71 (rest : BitVec 25) : Statement (.illegal71 rest) := of_illegal_row (row := .illegal71) rfl rfl
theorem illegal72 (rest : BitVec 25) : Statement (.illegal72 rest) := of_illegal_row (row := .illegal72) rfl rfl
theorem illegal74 (rest : BitVec 25) : Statement (.illegal74 rest) := of_illegal_row (row := .illegal74) rfl rfl
theorem illegal75 (rest : BitVec 25) : Statement (.illegal75 rest) := of_illegal_row (row := .illegal75) rfl rfl
theorem illegal76 (rest : BitVec 25) : Statement (.illegal76 rest) := of_illegal_row (row := .illegal76) rfl rfl
theorem illegal77 (rest : BitVec 25) : Statement (.illegal77 rest) := of_illegal_row (row := .illegal77) rfl rfl
theorem illegal78 (rest : BitVec 25) : Statement (.illegal78 rest) := of_illegal_row (row := .illegal78) rfl rfl
theorem illegal79 (rest : BitVec 25) : Statement (.illegal79 rest) := of_illegal_row (row := .illegal79) rfl rfl
theorem illegal7A (rest : BitVec 25) : Statement (.illegal7A rest) := of_illegal_row (row := .illegal7A) rfl rfl
theorem illegal7B (rest : BitVec 25) : Statement (.illegal7B rest) := of_illegal_row (row := .illegal7B) rfl rfl
theorem illegal7C (rest : BitVec 25) : Statement (.illegal7C rest) := of_illegal_row (row := .illegal7C) rfl rfl
theorem illegal7D (rest : BitVec 25) : Statement (.illegal7D rest) := of_illegal_row (row := .illegal7D) rfl rfl
theorem illegal7E (rest : BitVec 25) : Statement (.illegal7E rest) := of_illegal_row (row := .illegal7E) rfl rfl
theorem illegal7F (rest : BitVec 25) : Statement (.illegal7F rest) := of_illegal_row (row := .illegal7F) rfl rfl

end Sys2Proof.Laws.RoundTrip
end

