-- ==== Sys2Proof/Laws/Step.lean ====
section
/-! SUPPORT. What a step is, and what presenting an instruction leaves on the ports. -/

namespace Sys2Proof.Machine

theorem step_eq_exec (s : State) : step s = exec (decodeInstr s.word) s := rfl

@[simp] theorem State.withFetchWord_word (s : State) (nbits w : Nat) :
    (s.withFetchWord nbits w).word = BitVec.ofNat 32 (w % 2 ^ nbits) := rfl

@[simp] theorem State.withFetchWord_out (s : State) (nbits w : Nat) :
    (s.withFetchWord nbits w).out = decodeRecord (BitVec.ofNat 32 (w % 2 ^ nbits)) := rfl

@[simp] theorem State.withFetchWord_held (s : State) (nbits w : Nat) : (s.withFetchWord nbits w).held = s.held := rfl

/-- A 32-bit table word is presented as it is. -/
theorem State.withFetchWord_eq_present (s : State) (w : Word) : s.withFetchWord 32 w.toNat = s.present w := by
  have : BitVec.ofNat 32 (w.toNat % 2 ^ 32) = w := by
    apply BitVec.eq_of_toNat_eq
    have := w.isLt
    simp; omega
  rw [State.withFetchWord, this]

end Sys2Proof.Machine
end

