-- ==== Sys2Proof/Tests/Slice0.lean ====
section
/-! SUPPORT. The model's own tests, and a witness for the hypotheses of each statement.  Expected results are the spec's: the
words of `95_test_vectors.md` and the encodings of rule R41. -/

namespace Sys2Proof.Tests

open Sys2Proof Sys2Proof.Machine

/-! ### WellFormed refuses an odd offset and nothing else is checked -/

theorem test_wf_refuses_odd_jump_offset : (Instr.jal 1 9).wellFormed = false := by decide
theorem test_wf_accepts_even_jump_offset : (Instr.jal 1 8).wellFormed = true := by decide
theorem test_wf_refuses_odd_branch_offset : (Instr.branch 1 2 0 3).wellFormed = false := by decide
theorem test_wf_accepts_even_branch_offset : (Instr.branch 1 2 0 2).wellFormed = true := by decide

/-! ### One word per constructor, its fields written out by the format tables of rule R41 -/

theorem test_decode_lui : decodeInstr 0b00010010001101000101_00101_0110111#32 = .lui 5 0x12345 := by decide
theorem test_decode_auipc : decodeInstr 0b10000000000000000001_11111_0010111#32 = .auipc 31 0x80001 := by decide
theorem test_decode_jal : decodeInstr 0b1_0000000010_1_00000011_00001_1101111#32 = .jal 1 0x103804 := by decide
theorem test_decode_jalr : decodeInstr 0b100000000001_00101_000_00001_1100111#32 = .jalr 1 5 0 0x801 := by decide
theorem test_decode_branch : decodeInstr 0b1_000010_00110_00101_001_0011_1_1100011#32 = .branch 5 6 1 0x1846 := by decide
theorem test_decode_load : decodeInstr 0b111111111110_00010_101_00011_0000011#32 = .load 3 2 5 0xFFE := by decide
theorem test_decode_store : decodeInstr 0b1000001_00110_00010_010_00011_0100011#32 = .store 2 6 2 0x823 := by decide
theorem test_decode_opImmF0 : decodeInstr 0b0100000_00011_00010_000_00001_0010011#32 = .opImmF0 1 2 0x403 := by decide
theorem test_decode_opImmF1 : decodeInstr 0b0100000_00011_00010_001_00001_0010011#32 = .opImmF1 1 2 0x403 := by decide
theorem test_decode_opImmF2 : decodeInstr 0b0100000_00011_00010_010_00001_0010011#32 = .opImmF2 1 2 0x403 := by decide
theorem test_decode_opImmF3 : decodeInstr 0b0100000_00011_00010_011_00001_0010011#32 = .opImmF3 1 2 0x403 := by decide
theorem test_decode_opImmF4 : decodeInstr 0b0100000_00011_00010_100_00001_0010011#32 = .opImmF4 1 2 0x403 := by decide
theorem test_decode_opImmF5 : decodeInstr 0b0100000_00011_00010_101_00001_0010011#32 = .opImmF5 1 2 0x403 := by decide
theorem test_decode_opImmF6 : decodeInstr 0b0100000_00011_00010_110_00001_0010011#32 = .opImmF6 1 2 0x403 := by decide
theorem test_decode_opImmF7 : decodeInstr 0b0100000_00011_00010_111_00001_0010011#32 = .opImmF7 1 2 0x403 := by decide
theorem test_decode_op : decodeInstr 0b1_100001_00011_00010_101_00001_0110011#32 = .op 1 2 3 5 0x21 1 := by decide
theorem test_decode_miscMem : decodeInstr 0b000011110011_00110_001_00101_0001111#32 = .miscMem 5 6 1 0x0F3 := by decide
theorem test_decode_system : decodeInstr 0b001100000010_00110_010_00101_1110011#32 = .system 5 6 2 0x302 := by decide

/-! Every unrecognised opcode under the bits 0xABCDE above it. -/

theorem test_decode_illegal_0 :
    [0xABCDE000#32, 0xABCDE001#32, 0xABCDE002#32, 0xABCDE004#32, 0xABCDE005#32, 0xABCDE006#32, 0xABCDE007#32, 0xABCDE008#32, 0xABCDE009#32, 0xABCDE00A#32, 0xABCDE00B#32, 0xABCDE00C#32, 0xABCDE00D#32, 0xABCDE00E#32].map decodeInstr =
      [.illegal00 0x1579BC0, .illegal01 0x1579BC0, .illegal02 0x1579BC0, .illegal04 0x1579BC0, .illegal05 0x1579BC0, .illegal06 0x1579BC0, .illegal07 0x1579BC0, .illegal08 0x1579BC0, .illegal09 0x1579BC0, .illegal0A 0x1579BC0, .illegal0B 0x1579BC0, .illegal0C 0x1579BC0, .illegal0D 0x1579BC0, .illegal0E 0x1579BC0] := by decide
theorem test_decode_illegal_1 :
    [0xABCDE010#32, 0xABCDE011#32, 0xABCDE012#32, 0xABCDE014#32, 0xABCDE015#32, 0xABCDE016#32, 0xABCDE018#32, 0xABCDE019#32, 0xABCDE01A#32, 0xABCDE01B#32, 0xABCDE01C#32, 0xABCDE01D#32, 0xABCDE01E#32, 0xABCDE01F#32].map decodeInstr =
      [.illegal10 0x1579BC0, .illegal11 0x1579BC0, .illegal12 0x1579BC0, .illegal14 0x1579BC0, .illegal15 0x1579BC0, .illegal16 0x1579BC0, .illegal18 0x1579BC0, .illegal19 0x1579BC0, .illegal1A 0x1579BC0, .illegal1B 0x1579BC0, .illegal1C 0x1579BC0, .illegal1D 0x1579BC0, .illegal1E 0x1579BC0, .illegal1F 0x1579BC0] := by decide
theorem test_decode_illegal_2 :
    [0xABCDE020#32, 0xABCDE021#32, 0xABCDE022#32, 0xABCDE024#32, 0xABCDE025#32, 0xABCDE026#32, 0xABCDE027#32, 0xABCDE028#32, 0xABCDE029#32, 0xABCDE02A#32, 0xABCDE02B#32, 0xABCDE02C#32, 0xABCDE02D#32, 0xABCDE02E#32, 0xABCDE02F#32].map decodeInstr =
      [.illegal20 0x1579BC0, .illegal21 0x1579BC0, .illegal22 0x1579BC0, .illegal24 0x1579BC0, .illegal25 0x1579BC0, .illegal26 0x1579BC0, .illegal27 0x1579BC0, .illegal28 0x1579BC0, .illegal29 0x1579BC0, .illegal2A 0x1579BC0, .illegal2B 0x1579BC0, .illegal2C 0x1579BC0, .illegal2D 0x1579BC0, .illegal2E 0x1579BC0, .illegal2F 0x1579BC0] := by decide
theorem test_decode_illegal_3 :
    [0xABCDE030#32, 0xABCDE031#32, 0xABCDE032#32, 0xABCDE034#32, 0xABCDE035#32, 0xABCDE036#32, 0xABCDE038#32, 0xABCDE039#32, 0xABCDE03A#32, 0xABCDE03B#32, 0xABCDE03C#32, 0xABCDE03D#32, 0xABCDE03E#32, 0xABCDE03F#32].map decodeInstr =
      [.illegal30 0x1579BC0, .illegal31 0x1579BC0, .illegal32 0x1579BC0, .illegal34 0x1579BC0, .illegal35 0x1579BC0, .illegal36 0x1579BC0, .illegal38 0x1579BC0, .illegal39 0x1579BC0, .illegal3A 0x1579BC0, .illegal3B 0x1579BC0, .illegal3C 0x1579BC0, .illegal3D 0x1579BC0, .illegal3E 0x1579BC0, .illegal3F 0x1579BC0] := by decide
theorem test_decode_illegal_4 :
    [0xABCDE040#32, 0xABCDE041#32, 0xABCDE042#32, 0xABCDE043#32, 0xABCDE044#32, 0xABCDE045#32, 0xABCDE046#32, 0xABCDE047#32, 0xABCDE048#32, 0xABCDE049#32, 0xABCDE04A#32, 0xABCDE04B#32, 0xABCDE04C#32, 0xABCDE04D#32, 0xABCDE04E#32, 0xABCDE04F#32].map decodeInstr =
      [.illegal40 0x1579BC0, .illegal41 0x1579BC0, .illegal42 0x1579BC0, .illegal43 0x1579BC0, .illegal44 0x1579BC0, .illegal45 0x1579BC0, .illegal46 0x1579BC0, .illegal47 0x1579BC0, .illegal48 0x1579BC0, .illegal49 0x1579BC0, .illegal4A 0x1579BC0, .illegal4B 0x1579BC0, .illegal4C 0x1579BC0, .illegal4D 0x1579BC0, .illegal4E 0x1579BC0, .illegal4F 0x1579BC0] := by decide
theorem test_decode_illegal_5 :
    [0xABCDE050#32, 0xABCDE051#32, 0xABCDE052#32, 0xABCDE053#32, 0xABCDE054#32, 0xABCDE055#32, 0xABCDE056#32, 0xABCDE057#32, 0xABCDE058#32, 0xABCDE059#32, 0xABCDE05A#32, 0xABCDE05B#32, 0xABCDE05C#32, 0xABCDE05D#32, 0xABCDE05E#32, 0xABCDE05F#32].map decodeInstr =
      [.illegal50 0x1579BC0, .illegal51 0x1579BC0, .illegal52 0x1579BC0, .illegal53 0x1579BC0, .illegal54 0x1579BC0, .illegal55 0x1579BC0, .illegal56 0x1579BC0, .illegal57 0x1579BC0, .illegal58 0x1579BC0, .illegal59 0x1579BC0, .illegal5A 0x1579BC0, .illegal5B 0x1579BC0, .illegal5C 0x1579BC0, .illegal5D 0x1579BC0, .illegal5E 0x1579BC0, .illegal5F 0x1579BC0] := by decide
theorem test_decode_illegal_6 :
    [0xABCDE060#32, 0xABCDE061#32, 0xABCDE062#32, 0xABCDE064#32, 0xABCDE065#32, 0xABCDE066#32, 0xABCDE068#32, 0xABCDE069#32, 0xABCDE06A#32, 0xABCDE06B#32, 0xABCDE06C#32, 0xABCDE06D#32, 0xABCDE06E#32].map decodeInstr =
      [.illegal60 0x1579BC0, .illegal61 0x1579BC0, .illegal62 0x1579BC0, .illegal64 0x1579BC0, .illegal65 0x1579BC0, .illegal66 0x1579BC0, .illegal68 0x1579BC0, .illegal69 0x1579BC0, .illegal6A 0x1579BC0, .illegal6B 0x1579BC0, .illegal6C 0x1579BC0, .illegal6D 0x1579BC0, .illegal6E 0x1579BC0] := by decide
theorem test_decode_illegal_7 :
    [0xABCDE070#32, 0xABCDE071#32, 0xABCDE072#32, 0xABCDE074#32, 0xABCDE075#32, 0xABCDE076#32, 0xABCDE077#32, 0xABCDE078#32, 0xABCDE079#32, 0xABCDE07A#32, 0xABCDE07B#32, 0xABCDE07C#32, 0xABCDE07D#32, 0xABCDE07E#32, 0xABCDE07F#32].map decodeInstr =
      [.illegal70 0x1579BC0, .illegal71 0x1579BC0, .illegal72 0x1579BC0, .illegal74 0x1579BC0, .illegal75 0x1579BC0, .illegal76 0x1579BC0, .illegal77 0x1579BC0, .illegal78 0x1579BC0, .illegal79 0x1579BC0, .illegal7A 0x1579BC0, .illegal7B 0x1579BC0, .illegal7C 0x1579BC0, .illegal7D 0x1579BC0, .illegal7E 0x1579BC0, .illegal7F 0x1579BC0] := by decide

/-! ### The extractor and the resolver on the vectors of sections 2.1 and 2.2 -/

theorem test_extract_vectors :
    [0x00000000#32, 0xFFFFFFFF#32, 0xFE5F9AE3#32, 0x80000000#32, 0x40000000#32, 0x02000000#32, 0x01000000#32, 0x00100000#32, 0x00080000#32, 0x00008000#32, 0x00004000#32, 0x00001000#32, 0x00000800#32, 0x00000080#32, 0x00000040#32, 0x00000001#32, 0x7D5A8A63#32].map extract =
      [⟨0x00, 0, 0, 0, 0, 0x00⟩,
       ⟨0x7F, 31, 7, 31, 31, 0x3F⟩,
       ⟨0x63, 21, 1, 31, 5, 0x3F⟩,
       ⟨0x00, 0, 0, 0, 0, 0x00⟩,
       ⟨0x00, 0, 0, 0, 0, 0x20⟩,
       ⟨0x00, 0, 0, 0, 0, 0x01⟩,
       ⟨0x00, 0, 0, 0, 16, 0x00⟩,
       ⟨0x00, 0, 0, 0, 1, 0x00⟩,
       ⟨0x00, 0, 0, 16, 0, 0x00⟩,
       ⟨0x00, 0, 0, 1, 0, 0x00⟩,
       ⟨0x00, 0, 4, 0, 0, 0x00⟩,
       ⟨0x00, 0, 1, 0, 0, 0x00⟩,
       ⟨0x00, 16, 0, 0, 0, 0x00⟩,
       ⟨0x00, 1, 0, 0, 0, 0x00⟩,
       ⟨0x40, 0, 0, 0, 0, 0x00⟩,
       ⟨0x01, 0, 0, 0, 0, 0x00⟩,
       ⟨0x63, 20, 0, 21, 21, 0x3E⟩] := by decide
theorem test_resolve_vectors_0 :
    [0x00000000#32, 0xFFFFFFFF#32, 0xFE5F9AE3#32, 0x7D5A8A63#32, 0x80000000#32, 0x7FFFFFFF#32, 0x00100000#32, 0x7FF00000#32].map resolve =
      [⟨0x000, 0x00000000, 0x000, 0x00000000, 0x00000000, 0x0000, 0x00000000, 0x000000, 0x00000000⟩,
       ⟨0xFFF, 0xFFFFFFFF, 0xFFF, 0xFFFFFFFF, 0xFFFFF000, 0x1FFE, 0xFFFFFFFE, 0x1FFFFE, 0xFFFFFFFE⟩,
       ⟨0xFE5, 0xFFFFFFE5, 0xFF5, 0xFFFFFFF5, 0xFE5F9000, 0x1FF4, 0xFFFFFFF4, 0x1F9FE4, 0xFFFF9FE4⟩,
       ⟨0x7D5, 0x000007D5, 0x7D4, 0x000007D4, 0x7D5A8000, 0x07D4, 0x000007D4, 0x0A8FD4, 0x000A8FD4⟩,
       ⟨0x800, 0xFFFFF800, 0x800, 0xFFFFF800, 0x80000000, 0x1000, 0xFFFFF000, 0x100000, 0xFFF00000⟩,
       ⟨0x7FF, 0x000007FF, 0x7FF, 0x000007FF, 0x7FFFF000, 0x0FFE, 0x00000FFE, 0x0FFFFE, 0x000FFFFE⟩,
       ⟨0x001, 0x00000001, 0x000, 0x00000000, 0x00100000, 0x0000, 0x00000000, 0x000800, 0x00000800⟩,
       ⟨0x7FF, 0x000007FF, 0x7E0, 0x000007E0, 0x7FF00000, 0x07E0, 0x000007E0, 0x000FFE, 0x00000FFE⟩] := by decide
theorem test_resolve_vectors_1 :
    [0x80000F80#32, 0x00000080#32, 0x00000F00#32, 0x7E000000#32, 0x000FF000#32, 0x00000F80#32, 0x7FE00000#32, 0x00001000#32].map resolve =
      [⟨0x800, 0xFFFFF800, 0x81F, 0xFFFFF81F, 0x80000000, 0x181E, 0xFFFFF81E, 0x100000, 0xFFF00000⟩,
       ⟨0x000, 0x00000000, 0x001, 0x00000001, 0x00000000, 0x0800, 0x00000800, 0x000000, 0x00000000⟩,
       ⟨0x000, 0x00000000, 0x01E, 0x0000001E, 0x00000000, 0x001E, 0x0000001E, 0x000000, 0x00000000⟩,
       ⟨0x7E0, 0x000007E0, 0x7E0, 0x000007E0, 0x7E000000, 0x07E0, 0x000007E0, 0x0007E0, 0x000007E0⟩,
       ⟨0x000, 0x00000000, 0x000, 0x00000000, 0x000FF000, 0x0000, 0x00000000, 0x0FF000, 0x000FF000⟩,
       ⟨0x000, 0x00000000, 0x01F, 0x0000001F, 0x00000000, 0x081E, 0x0000081E, 0x000000, 0x00000000⟩,
       ⟨0x7FE, 0x000007FE, 0x7E0, 0x000007E0, 0x7FE00000, 0x07E0, 0x000007E0, 0x0007FE, 0x000007FE⟩,
       ⟨0x000, 0x00000000, 0x000, 0x00000000, 0x00001000, 0x0000, 0x00000000, 0x001000, 0x00001000⟩] := by decide

/-! ### One step from reset on the vectors of sections 2.3 to 2.10 -/

/-- The record one step shows for a word presented after reset. -/
def shown (w : Word) : Option Instruction :=
  match step (State.reset.present w) with
  | .next t => some t.out
  | .fault _ => none
  | .refused _ => none

theorem test_step_lui_auipc :
    [0x123452B7#32, 0xFFFFF537#32, 0x00000037#32, 0x80000FB7#32, 0x000F80B7#32, 0xFFFFF517#32, 0x00001097#32, 0x00000017#32, 0x7FFFFF97#32].map shown =
      [some (record 0x37 5 8 32 0 5 0x09 0x12345000 .MOV .NOP),
       some (record 0x37 10 31 32 0 7 0x3F 0xFFFFF000 .MOV .NOP),
       some (record 0x37 0 0 32 0 0 0x00 0x00000000 .MOV .NOP),
       some (record 0x37 31 0 32 0 0 0x00 0x80000000 .MOV .NOP),
       some (record 0x37 1 31 32 0 0 0x00 0x000F8000 .MOV .NOP),
       some (record 0x17 10 33 32 0 7 0x3F 0xFFFFF000 .ADDI .NOP),
       some (record 0x17 1 33 32 0 1 0x00 0x00001000 .ADDI .NOP),
       some (record 0x17 0 33 32 0 0 0x00 0x00000000 .ADDI .NOP),
       some (record 0x17 31 33 32 0 7 0x3F 0x7FFFF000 .ADDI .NOP)] := by decide
theorem test_step_jal_jalr :
    [0x008000EF#32, 0xFFDFF06F#32, 0x7FFFF0EF#32, 0x80000FEF#32, 0x0000006F#32, 0x001002EF#32, 0x002000EF#32, 0x00008067#32, 0xFFC280E7#32, 0x7FFF80E7#32, 0x80000FE7#32, 0x123171E7#32].map shown =
      [some (record 0x6F 1 0 34 0 0 0x00 0x00000008 .MOV .JMP),
       some (record 0x6F 0 31 34 0 7 0x3F 0xFFFFFFFC .MOV .JMP),
       some (record 0x6F 1 31 34 0 7 0x3F 0x000FFFFE .MOV .JMP),
       some (record 0x6F 31 0 34 0 0 0x00 0xFFF00000 .MOV .JMP),
       some (record 0x6F 0 0 34 0 0 0x00 0x00000000 .MOV .JMP),
       some (record 0x6F 5 0 34 0 0 0x00 0x00000800 .MOV .JMP),
       some (record 0x6F 1 0 34 0 0 0x00 0x00000002 .MOV .JMP),
       some (record 0x67 0 1 34 0 0 0x00 0x00000000 .MOV .JPR),
       some (record 0x67 1 5 34 0 0 0x3F 0x00000000 .MOV .JPR),
       some (record 0x67 1 31 34 0 0 0x3F 0x00000000 .MOV .JPR),
       some (record 0x67 31 0 34 0 0 0x00 0x00000000 .MOV .JPR),
       some (record 0x67 3 2 34 0 7 0x09 0x00000000 .MOV .JPR)] := by decide
theorem test_step_branch :
    [0x00628863#32, 0xFE031CE3#32, 0x81FFF063#32, 0x7E20CFE3#32, 0x00005063#32, 0x001120E3#32, 0x0041B163#32, 0xFEA5EFE3#32].map shown =
      [some (record 0x63 0 5 6 0 0 0x00 0x00000010 .CMP .JCC),
       some (record 0x63 0 6 0 0 1 0x3F 0xFFFFFFF8 .CMP .JCC),
       some (record 0x63 0 31 31 0 7 0x00 0xFFFFF000 .CMP .JCC),
       some (record 0x63 0 1 2 0 4 0x3F 0x00000FFE .CMP .JCC),
       some (record 0x63 0 0 0 0 5 0x00 0x00000000 .CMP .JCC),
       some (record 0x63 0 2 1 0 2 0x00 0x00000800 .CMP .JCC),
       some (record 0x63 0 3 4 0 3 0x00 0x00000002 .CMP .JCC),
       some (record 0x63 0 11 10 0 6 0x3F 0xFFFFFFFE .CMP .JCC)] := by decide
theorem test_step_load_store :
    [0x00812283#32, 0xFFFF8083#32, 0x7FF05503#32, 0x8000C003#32, 0x00039383#32, 0x01013403#32, 0x7FF1F483#32, 0x00612623#32, 0xFFF08FA3#32, 0x80079023#32, 0x7E502FA3#32, 0x7E927023#32, 0x0010AFA3#32].map shown =
      [some (record 0x03 5 2 32 0 2 0x00 0x00000008 .ADDI .LD),
       some (record 0x03 1 31 32 0 0 0x3F 0xFFFFFFFF .ADDI .LD),
       some (record 0x03 10 0 32 0 5 0x3F 0x000007FF .ADDI .LD),
       some (record 0x03 0 1 32 0 4 0x00 0xFFFFF800 .ADDI .LD),
       some (record 0x03 7 7 32 0 1 0x00 0x00000000 .ADDI .LD),
       some (record 0x03 8 2 32 0 3 0x00 0x00000010 .ADDI .LD),
       some (record 0x03 9 3 32 0 7 0x3F 0x000007FF .ADDI .LD),
       some (record 0x23 0 2 32 6 2 0x00 0x0000000C .ADDI .ST),
       some (record 0x23 0 1 32 31 0 0x3F 0xFFFFFFFF .ADDI .ST),
       some (record 0x23 0 15 32 0 1 0x00 0xFFFFF800 .ADDI .ST),
       some (record 0x23 0 0 32 5 2 0x3F 0x000007FF .ADDI .ST),
       some (record 0x23 0 4 32 9 7 0x3F 0x000007E0 .ADDI .ST),
       some (record 0x23 0 1 32 1 2 0x00 0x0000001F .ADDI .ST)] := by decide
theorem test_step_op_imm :
    [0x00000013#32, 0xFFF00013#32, 0x03F00013#32, 0x00A00293#32, 0x800F8F93#32, 0x00311093#32, 0x01FF9F93#32, 0x03F01013#32, 0xFFF09093#32, 0x02009093#32, 0x0041D113#32, 0x4011D113#32, 0x41FFDF93#32, 0xFFF05013#32, 0xFFF22193#32, 0xFFF23193#32, 0x7FF34293#32, 0x80036293#32, 0x0FF37293#32, 0x83F37293#32].map shown =
      [some (record 0x13 0 0 32 0 0 0x00 0x00000000 .ADDI .NOP),
       some (record 0x13 0 0 32 0 0 0x3F 0xFFFFFFFF .ADDI .NOP),
       some (record 0x13 0 0 32 0 0 0x01 0x0000003F .ADDI .NOP),
       some (record 0x13 5 0 32 0 0 0x00 0x0000000A .ADDI .NOP),
       some (record 0x13 31 31 32 0 0 0x00 0xFFFFF800 .ADDI .NOP),
       some (record 0x13 1 2 32 0 1 0x00 0x00000003 .ALU .NOP),
       some (record 0x13 31 31 32 0 1 0x00 0x0000001F .ALU .NOP),
       some (record 0x13 0 0 32 0 1 0x01 0x0000001F .ALU .NOP),
       some (record 0x13 1 1 32 0 1 0x3F 0x0000001F .ALU .NOP),
       some (record 0x13 1 1 32 0 1 0x01 0x00000000 .ALU .NOP),
       some (record 0x13 2 3 32 0 5 0x00 0x00000004 .ALU .NOP),
       some (record 0x13 2 3 32 0 5 0x20 0x00000001 .ALU .NOP),
       some (record 0x13 31 31 32 0 5 0x20 0x0000001F .ALU .NOP),
       some (record 0x13 0 0 32 0 5 0x3F 0x0000001F .ALU .NOP),
       some (record 0x13 3 4 32 0 2 0x3F 0xFFFFFFFF .ALU .NOP),
       some (record 0x13 3 4 32 0 3 0x3F 0xFFFFFFFF .ALU .NOP),
       some (record 0x13 5 6 32 0 4 0x3F 0x000007FF .ALU .NOP),
       some (record 0x13 5 6 32 0 6 0x00 0xFFFFF800 .ALU .NOP),
       some (record 0x13 5 6 32 0 7 0x07 0x000000FF .ALU .NOP),
       some (record 0x13 5 6 32 0 7 0x01 0xFFFFF83F .ALU .NOP)] := by decide
theorem test_step_op :
    [0x002081B3#32, 0x402081B3#32, 0x01FF9FB3#32, 0x00002033#32, 0x0062B233#32, 0x0062C233#32, 0x0062D233#32, 0x4062D233#32, 0x0062E233#32, 0x0062F233#32, 0x02B50533#32, 0x802081B3#32, 0xFE2081B3#32, 0x2A3213B3#32].map shown =
      [some (record 0x33 3 1 2 0 0 0x00 0x00000000 .ALU .NOP),
       some (record 0x33 3 1 2 0 0 0x20 0x00000000 .ALU .NOP),
       some (record 0x33 31 31 31 0 1 0x00 0x00000000 .ALU .NOP),
       some (record 0x33 0 0 0 0 2 0x00 0x00000000 .ALU .NOP),
       some (record 0x33 4 5 6 0 3 0x00 0x00000000 .ALU .NOP),
       some (record 0x33 4 5 6 0 4 0x00 0x00000000 .ALU .NOP),
       some (record 0x33 4 5 6 0 5 0x00 0x00000000 .ALU .NOP),
       some (record 0x33 4 5 6 0 5 0x20 0x00000000 .ALU .NOP),
       some (record 0x33 4 5 6 0 6 0x00 0x00000000 .ALU .NOP),
       some (record 0x33 4 5 6 0 7 0x00 0x00000000 .ALU .NOP),
       some (record 0x33 10 10 11 0 0 0x01 0x00000000 .ALU .NOP),
       some (record 0x33 3 1 2 0 0 0x00 0x00000000 .ALU .NOP),
       some (record 0x33 3 1 2 0 0 0x3F 0x00000000 .ALU .NOP),
       some (record 0x33 7 4 3 0 1 0x15 0x00000000 .ALU .NOP)] := by decide
theorem test_step_fence_system :
    [0x0FF0000F#32, 0x0000100F#32, 0x0FF3028F#32, 0x8330000F#32, 0x0000000F#32, 0xFFFFFF8F#32, 0x00000073#32, 0x00100073#32, 0x30200073#32, 0x10500073#32, 0x300312F3#32, 0xC0002573#32, 0x7C0FD073#32, 0xFFFFFFF3#32].map shown =
      [some (record 0x0F 0 0 31 0 0 0x07 0x000000FF .NOP .NOP),
       some (record 0x0F 0 0 0 0 1 0x00 0x00000000 .NOP .NOP),
       some (record 0x0F 0 6 31 0 0 0x07 0x000000FF .NOP .NOP),
       some (record 0x0F 0 0 19 0 0 0x01 0xFFFFF833 .NOP .NOP),
       some (record 0x0F 0 0 0 0 0 0x00 0x00000000 .NOP .NOP),
       some (record 0x0F 0 31 31 0 7 0x3F 0xFFFFFFFF .NOP .NOP),
       some (record 0x73 0 0 0 0 0 0x00 0x00000000 .NOP .SPC),
       some (record 0x73 0 0 1 0 0 0x00 0x00000001 .NOP .SPC),
       some (record 0x73 0 0 2 0 0 0x18 0x00000302 .NOP .SPC),
       some (record 0x73 0 0 5 0 0 0x08 0x00000105 .NOP .SPC),
       some (record 0x73 0 6 0 0 1 0x18 0x00000300 .NOP .SPC),
       some (record 0x73 0 0 0 0 2 0x20 0xFFFFFC00 .NOP .SPC),
       some (record 0x73 0 31 0 0 5 0x3E 0x000007C0 .NOP .SPC),
       some (record 0x73 0 31 31 0 7 0x3F 0xFFFFFFFF .NOP .SPC)] := by decide
theorem test_step_illegal :
    [0x00000000#32, 0xFFFFFFFF#32, 0x00000001#32, 0x00012087#32, 0x005323AF#32, 0x0011019B#32, 0xFFFFFF8B#32, 0x002081BB#32, 0x002081B2#32, 0x002081B4#32, 0x00510192#32, 0x00510194#32, 0x123452B6#32, 0x008000EE#32].map shown =
      [some (record 0x00 0 0 0 0 0 0x00 0x00000000 .NOP .EXP),
       some (record 0x7F 0 0 0 0 7 0x3F 0x00000000 .NOP .EXP),
       some (record 0x01 0 0 0 0 0 0x00 0x00000000 .NOP .EXP),
       some (record 0x07 0 0 0 0 2 0x00 0x00000000 .NOP .EXP),
       some (record 0x2F 0 0 0 0 2 0x00 0x00000000 .NOP .EXP),
       some (record 0x1B 0 0 0 0 0 0x00 0x00000000 .NOP .EXP),
       some (record 0x0B 0 0 0 0 7 0x3F 0x00000000 .NOP .EXP),
       some (record 0x3B 0 0 0 0 0 0x00 0x00000000 .NOP .EXP),
       some (record 0x32 0 0 0 0 0 0x00 0x00000000 .NOP .EXP),
       some (record 0x34 0 0 0 0 0 0x00 0x00000000 .NOP .EXP),
       some (record 0x12 0 0 0 0 0 0x00 0x00000000 .NOP .EXP),
       some (record 0x14 0 0 0 0 0 0x00 0x00000000 .NOP .EXP),
       some (record 0x36 0 0 0 0 5 0x09 0x00000000 .NOP .EXP),
       some (record 0x6E 0 0 0 0 0 0x00 0x00000000 .NOP .EXP)] := by decide

/-! ### Other terms claims use -/

theorem test_withFetchWord_runs_the_word :
    step (State.reset.withFetchWord 32 0x00A00293) =
      .next { word := 0x00A00293#32, out := record 0x13 5 0 32 0 0 0x00 0x0000000A .ADDI .NOP } := by rfl
theorem test_decodeTableWord_short_row : decodeTableWord 8 0x7F = some (.illegal7F 0) := by decide
theorem test_decodeTableWord_refuses_wide : decodeTableWord 64 0x13 = none := by decide
theorem test_ports_default_encoding : (Instruction.ports opEncDefault (decodeRecord 0x00628863#32)).op2_o = 8#4 := by decide
theorem test_operand_of_sentinel : operandOfIndex 33#6 = some .programCounter := by decide
theorem test_stream :
    recordsOf State.reset [0x00000013#32, 0x00000000#32] =
      [record 0x13 0 0 32 0 0 0 0 .ADDI .NOP, record 0 0 0 0 0 0 0 0 .NOP .EXP] := by decide

/-! ### Witnesses: concrete inputs that meet each statement's hypotheses -/

theorem witness_StepRunsDecodedInstruction : (Instr.jal 1 8).wellFormed = true ∧ State.reset.word = 0#32 := by decide
theorem witness_DecodeOfEncodeIsTheInstruction :
    (Instr.branch 31 0 7 0x1FFE).wellFormed = true ∧ (Instr.jal 31 0x1FFFFE).wellFormed = true := by decide
theorem witness_ExactlyOneHandlerRunsPerWord :
    [0x37#32, 0x17#32, 0x6f#32, 0x67#32, 0x63#32, 0x03#32, 0x23#32, 0x13#32, 0x33#32, 0x0f#32, 0x73#32].map fOpcode =
      [0x37#7, 0x17#7, 0x6f#7, 0x67#7, 0x63#7, 0x03#7, 0x23#7, 0x13#7, 0x33#7, 0x0f#7, 0x73#7] ∧
    recognised (fOpcode 0x32#32) = false ∧ recognised (fOpcode 0x34#32) = false := by decide
theorem witness_LuiRecord : (0xFFFFF537#32).extractLsb' 0 7 = 0x37#7 := by decide
theorem witness_AuipcRecord : (0x7FFFFF97#32).extractLsb' 0 7 = 0x17#7 := by decide
theorem witness_JalRecord : (0x1FFFFE#21).getLsbD 0 = false ∧ (0x7FFFF0EF#32).extractLsb' 0 7 = 0x6f#7 := by decide
theorem witness_JalrRecord : (0x7FFF80E7#32).extractLsb' 0 7 = 0x67#7 := by decide
theorem witness_BranchRecord : (0x1000#13).getLsbD 0 = false ∧ (0x81FFF063#32).extractLsb' 0 7 = 0x63#7 := by decide
theorem witness_LoadRecord : (0x8000C003#32).extractLsb' 0 7 = 0x03#7 := by decide
theorem witness_StoreRecord :
    (0x7E502FA3#32).extractLsb' 0 7 = 0x23#7 ∧ (decodeRecord 0x7E502FA3#32).rs3 ≠ 0#6 := by decide
theorem witness_OpImmRecords : (0x80028293#32).extractLsb' 0 7 = 0x13#7 := by decide
theorem witness_OpRecord : (0x802081B3#32).extractLsb' 0 7 = 0x33#7 := by decide
theorem witness_MiscMemRecord : (0x8330000F#32).extractLsb' 0 7 = 0x0f#7 := by decide
theorem witness_SystemRecord : (0xC0002573#32).extractLsb' 0 7 = 0x73#7 := by decide
theorem witness_IllegalRecords :
    illegalRow (.illegal00 0) = some (0x00#7, 0#25) ∧ illegalRow (.illegal7F 0x1FFFFFF) = some (0x7f#7, 0x1FFFFFF#25) ∧
    illegalRow (.lui 0 0) = none := by decide
theorem witness_ExecLeavesTheInputAlone :
    ∃ t u : State, exec (.lui 5 0x12345) State.reset = .next t ∧
      exec (.lui 5 0x12345) (State.reset.present 0xFFFFFFFF#32) = .next u := ⟨_, _, rfl, rfl⟩
theorem witness_SameWordGivesSameRecord :
    (∃ s s' : State, s ≠ s' ∧ s.word = s'.word) ∧ (∃ t : State, step State.reset = .next t) :=
  ⟨⟨State.reset, State.reset.drive (record 0x13 0 0 32 0 0 0 0 .ADDI .NOP), by decide, rfl⟩, ⟨_, rfl⟩⟩
theorem witness_StepSettlesTheOutputs : ∃ t : State, step (State.reset.present 0x13#32) = .next t := ⟨_, rfl⟩
theorem witness_StepKeepsRecordsLegal :
    LegalRecord State.reset.out ∧ ∃ t : State, step (State.reset.present 0xFFFFF517#32) = .next t :=
  ⟨⟨by decide, by decide, by decide, by decide, by decide, by decide⟩, ⟨_, rfl⟩⟩
theorem witness_IllegalMarkerIsExact :
    (decodeRecord 0x002081B2#32).op2 = .EXP ∧ (decodeRecord 0x002081B3#32).op2 ≠ .EXP ∧
    (decodeRecord 0x00000073#32).asksForTrap = true := by decide
theorem witness_CompressedSpaceIsMarkedIllegal :
    (0x00000001#32).extractLsb' 0 2 ≠ 3#2 ∧ (0x00000002#32).extractLsb' 0 2 ≠ 3#2 ∧ (0#32).extractLsb' 0 2 ≠ 3#2 := by decide
theorem witness_OutputsDependOnTheirBitsOnly_upper_and_jump :
    (0x12345037#32).extractLsb' 0 7 = (0x12345FB7#32).extractLsb' 0 7 ∧
    (0x12345037#32).extractLsb' 12 20 = (0x12345FB7#32).extractLsb' 12 20 := by decide
theorem witness_OutputsDependOnTheirBitsOnly_branch_and_store :
    (0x00000063#32).extractLsb' 0 7 = (0x01FFF063#32).extractLsb' 0 7 ∧
    (0x00000063#32).extractLsb' 25 7 = (0x01FFF063#32).extractLsb' 25 7 ∧
    (0x00000063#32).extractLsb' 7 5 = (0x01FFF063#32).extractLsb' 7 5 := by decide
theorem witness_OutputsDependOnTheirBitsOnly_load :
    (0x00000003#32).extractLsb' 0 7 = (0x000FFF83#32).extractLsb' 0 7 ∧
    (0x00000003#32).extractLsb' 20 12 = (0x000FFF83#32).extractLsb' 20 12 := by decide
theorem witness_OutputsDependOnTheirBitsOnly_shift :
    (0x00001013#32).extractLsb' 0 7 = (0xFE0F9F93#32).extractLsb' 0 7 ∧
    (0x00001013#32).extractLsb' 12 2 = (0xFE0F9F93#32).extractLsb' 12 2 ∧
    (0x00001013#32).extractLsb' 20 5 = (0xFE0F9F93#32).extractLsb' 20 5 ∧
    (0x00001013#32).extractLsb' 12 2 = 1#2 := by decide
theorem witness_OutputsDependOnTheirBitsOnly_imm :
    (0x00002013#32).extractLsb' 0 7 = (0x000FAF93#32).extractLsb' 0 7 ∧
    (0x00002013#32).extractLsb' 12 2 = (0x000FAF93#32).extractLsb' 12 2 ∧
    (0x00002013#32).extractLsb' 20 5 = (0x000FAF93#32).extractLsb' 20 5 ∧
    (0x00002013#32).extractLsb' 25 7 = (0x000FAF93#32).extractLsb' 25 7 := by decide
theorem witness_OutputsDependOnTheirBitsOnly_jalr :
    (0x00000067#32).extractLsb' 0 7 = (0xFFFFFFE7#32).extractLsb' 0 7 := by decide
theorem witness_OutputsDependOnTheirBitsOnly_ill :
    (0x00000000#32).extractLsb' 0 7 = (0xFFFFFF80#32).extractLsb' 0 7 ∧
    recognised 0x00#7 = false := by decide
theorem witness_RecordsAgreeExactlyOnLiveBits :
    decodeRecord 0x802081B3#32 = decodeRecord 0x002081B3#32 ∧ decodeRecord 0x402081B3#32 ≠ decodeRecord 0x002081B3#32 := by
  decide
theorem witness_ShiftImmediateIsTheRawField :
    fOpcode 0x4011D113#32 = 0x13#7 ∧ fFunct3 0x4011D113#32 = 5#3 ∧ fFunct3 0x03F01013#32 = 1#3 := by decide
theorem witness_OperationCodeEncoding :
    ∃ opEnc : OpCode → BitVec 4, opEnc .EXP = 4#4 ∧ ∀ a b : OpCode, opEnc a = opEnc b → a = b :=
  ⟨fun o => 15#4 - opEncDefault o, by decide, by intro a b; cases a <;> cases b <;> decide⟩
theorem witness_BitsThatDoNotFitAWordAreRejected :
    (32 ≤ 32 ∧ 0xFFFFFFFF < 2 ^ 32) ∧ (31 ≤ 32 ∧ 0x7FFFFFFF < 2 ^ 31) ∧ ¬(32 ≤ 32 ∧ 0x100000000 < 2 ^ 32) ∧ ¬(33 ≤ 32 ∧ 0 < 2 ^ 33) := by decide

theorem witness_StepChangesNothingOnceSettled :
    Settled (State.reset.present 0x7FFFFF97#32) ∧ ∃ t : State, step (State.reset.present 0x7FFFFF97#32) = .next t := ⟨rfl, _, rfl⟩
theorem witness_OutputsAreTheRecordAtEveryInstant :
    Instant ((State.reset.present 0x7FFFFF97#32).present 0xFFFFFFFF#32) ∧ Instant (State.reset.present 0xFFFFFFFF#32) :=
  ⟨.present _ (.present _ .reset), .present _ .reset⟩
/-- Rule R26: the outputs of the word presented stand there before any step. -/
theorem test_outputs_follow_the_input :
    (State.reset.present 0x123452B7#32).out = record 0x37 5 8 32 0 5 0x09 0x12345000 .MOV .NOP ∧
    (State.reset.withFetchWord 32 0x123452B7).out = record 0x37 5 8 32 0 5 0x09 0x12345000 .MOV .NOP := by decide

end Sys2Proof.Tests
end

section
/-! SUPPORT. The fields of a word, put back where their format has them, are that word (rule R41).  So the encoder gives back
every word from the instruction it decodes to (rules R50, R53). -/

namespace Sys2Proof

open Machine

section
variable (w : Word)

theorem encR_fields : encR (topBit w) (fFunct7 w) (fRs2 w) (fRs1 w) (fFunct3 w) (fRd w) (fOpcode w) = w := by
  ext i hi
  simp [encR, place, topBit, fFunct7, fRs2, fRs1, fFunct3, fRd, fOpcode]
  interval_cases i <;> simp

theorem encI_fields : encI (immFieldI w) (fRs1 w) (fFunct3 w) (fRd w) (fOpcode w) = w := by
  ext i hi
  simp [encI, place, immFieldI, fRs1, fFunct3, fRd, fOpcode]
  interval_cases i <;> simp

theorem encS_fields : encS (immFieldS w) (fRs2 w) (fRs1 w) (fFunct3 w) (fOpcode w) = w := by
  ext i hi
  simp [encS, place, immFieldS, fRs2, fRs1, fFunct3, fOpcode]
  interval_cases i <;> simp

theorem encB_fields : encB (offsetB w) (fRs2 w) (fRs1 w) (fFunct3 w) (fOpcode w) = w := by
  ext i hi
  simp [encB, place, offsetB, fRs2, fRs1, fFunct3, fOpcode]
  interval_cases i <;> simp

theorem encU_fields : encU (immFieldU w) (fRd w) (fOpcode w) = w := by
  ext i hi
  simp [encU, place, immFieldU, fRd, fOpcode]
  interval_cases i <;> simp

theorem encJ_fields : encJ (offsetJ w) (fRd w) (fOpcode w) = w := by
  ext i hi
  simp [encJ, place, offsetJ, fRd, fOpcode]
  interval_cases i <;> simp

theorem encIll_fields : encIll (aboveOpcode w) (fOpcode w) = w := by
  ext i hi
  simp [encIll, place, aboveOpcode, fOpcode]
  interval_cases i <;> simp

end

/-- Each of the eight rows of opcode 0x13 carries the funct3 that selects it. -/
theorem encode_opImmRow (funct3 : BitVec 3) (rd rs1 : BitVec 5) (imm : BitVec 12) :
    encode (opImmRow funct3 rd rs1 imm) = encI imm rs1 funct3 rd 0x13#7 := by
  obtain ⟨n, hn⟩ := funct3
  interval_cases n <;> rfl

/-- The opcode table holds an ILLEGAL row of its own for each unrecognised opcode (rule R50, the default). -/
theorem exists_ill_row {opc : BitVec 7} (h : recognised opc = false) :
    ∃ row : BitVec 25 → Instr, opcodeRow opc = ill row ∧ ∀ rest, illegalRow (row rest) = some (opc, rest) := by
  obtain ⟨n, hn⟩ := opc
  interval_cases n <;> simp [recognised] at h <;> exact ⟨_, rfl, fun _ => rfl⟩

theorem encode_of_illegalRow {i : Instr} {opc : BitVec 7} {rest : BitVec 25} (h : illegalRow i = some (opc, rest)) :
    encode i = encIll rest opc := by
  cases i <;> cases h <;> rfl

/-- Decoding loses no bit of the word. -/
theorem encode_decodeInstr (w : Word) : encode (decodeInstr w) = w := by
  rcases opcode_cases (fOpcode w) with h | h | h | h | h | h | h | h | h | h | h | h
  · rw [decodeInstr_eq_row h opcodeRow_37, decodeLui, encode_lui, ← h, encU_fields]
  · rw [decodeInstr_eq_row h opcodeRow_17, decodeAuipc, encode_auipc, ← h, encU_fields]
  · rw [decodeInstr_eq_row h opcodeRow_6f, decodeJal, encode_jal, ← h, encJ_fields]
  · rw [decodeInstr_eq_row h opcodeRow_67, decodeJalr, encode_jalr, ← h, encI_fields]
  · rw [decodeInstr_eq_row h opcodeRow_63, decodeBranch, encode_branch, ← h, encB_fields]
  · rw [decodeInstr_eq_row h opcodeRow_03, decodeLoad, encode_load, ← h, encI_fields]
  · rw [decodeInstr_eq_row h opcodeRow_23, decodeStore, encode_store, ← h, encS_fields]
  · rw [decodeInstr_eq_row h opcodeRow_13, decodeOpImm, encode_opImmRow, ← h, encI_fields]
  · rw [decodeInstr_eq_row h opcodeRow_33, decodeOp, encode_op, ← h, encR_fields]
  · rw [decodeInstr_eq_row h opcodeRow_0f, decodeMiscMem, encode_miscMem, ← h, encI_fields]
  · rw [decodeInstr_eq_row h opcodeRow_73, decodeSystem, encode_system, ← h, encI_fields]
  · obtain ⟨row, hrow, hill⟩ := exists_ill_row h
    rw [decodeInstr_eq_row rfl hrow, ill, encode_of_illegalRow (hill _), encIll_fields]

end Sys2Proof
end

section
/-! SUPPORT. Every meaning drives the record of its instruction's word, so a step drives the record of the word on the input. -/

namespace Sys2Proof.Machine

/-- The meaning of an instruction runs the one handler that its word's opcode selects (rules R3, R50): it completes, keeps the
input, and drives that word's record. -/
theorem exec_eq_decodeRecord (i : Instr) (s : State) :
    exec i s = .next { word := s.word, out := decodeRecord (encode i) } := by
  cases i with
  | lui | auipc => exact runHandler_decodeRecord s (fOpcode_encU ..) rfl
  | jal => exact runHandler_decodeRecord s (fOpcode_encJ ..) rfl
  | branch => exact runHandler_decodeRecord s (fOpcode_encB ..) rfl
  | store => exact runHandler_decodeRecord s (fOpcode_encS ..) rfl
  | op => exact runHandler_decodeRecord s (fOpcode_encR ..) rfl
  | jalr | load | miscMem | system | opImmF0 | opImmF1 | opImmF2 | opImmF3 | opImmF4 | opImmF5 | opImmF6 | opImmF7 =>
    exact runHandler_decodeRecord s (fOpcode_encI ..) rfl
  | _ => exact runHandler_decodeRecord s (fOpcode_encIll ..) rfl

/-- A step keeps the word on the input and drives its record, whatever the outputs showed before. -/
theorem step_eq_decodeRecord (s : State) : step s = .next { word := s.word, out := decodeRecord s.word } := by
  rw [step_eq_exec, exec_eq_decodeRecord, encode_decodeInstr]

/-- Settles O18: each meaning drives its own word's record, and the instruction that is run encodes back to the word presented. -/
theorem stepIsTheDecoderFunction : Obligations.StepIsTheDecoderFunction :=
  step_eq_decodeRecord

/-- Settles O21: a step's outcome is a function of the word alone, and a step leaves the word as it was. -/
theorem sameWordGivesSameRecord : Obligations.SameWordGivesSameRecord := by
  constructor
  · intro s s' hw
    rw [step_eq_decodeRecord, step_eq_decodeRecord, hw]
  · intro s t ht
    rw [step_eq_decodeRecord] at ht
    cases ht
    exact step_eq_decodeRecord _

end Sys2Proof.Machine
end

section
/-! SUPPORT. Each field of a record by the class whose handler writes it, and the opcodes of each class (rules R14 to R19, R50). -/

namespace Sys2Proof.Machine

/-- `op` of each class; funct3 takes part in OP_IMM only (the table after rule R17). -/
def HandlerClass.op (funct3 : BitVec 3) : HandlerClass → OpCode
  | .LUI | .JAL | .JALR => .MOV
  | .AUIPC | .LOAD | .STORE => .ADDI
  | .OP_IMM => if funct3 = 0#3 then .ADDI else .ALU
  | .OP => .ALU
  | .BRANCH => .CMP
  | .MISC_MEM | .SYSTEM | .ILLEGAL => .NOP

/-- `op2` of each class (the table after rule R17). -/
def HandlerClass.op2 : HandlerClass → OpCode
  | .JAL => .JMP
  | .JALR => .JPR
  | .BRANCH => .JCC
  | .LOAD => .LD
  | .STORE => .ST
  | .SYSTEM => .SPC
  | .ILLEGAL => .EXP
  | .LUI | .AUIPC | .OP_IMM | .OP | .MISC_MEM => .NOP

section
variable (c : HandlerClass) (funct3 : BitVec 3)

theorem HandlerClass.op_mem : c.op funct3 ∈ [OpCode.MOV, .ADDI, .ALU, .CMP, .NOP] := by
  cases c with
  | OP_IMM => by_cases h : funct3 = 0#3 <;> simp [HandlerClass.op, h]
  | _ => simp [HandlerClass.op]

theorem HandlerClass.op2_mem : c.op2 ∈ [OpCode.NOP, .JMP, .JPR, .JCC, .LD, .ST, .SPC, .EXP] := by
  cases c <;> decide

theorem HandlerClass.op_eq_iff :
    (c.op funct3 = .MOV ↔ c ∈ [.LUI, .JAL, .JALR]) ∧
    (c.op funct3 = .ADDI ↔ c ∈ [.AUIPC, .LOAD, .STORE] ∨ (c = .OP_IMM ∧ funct3 = 0#3)) ∧
    (c.op funct3 = .ALU ↔ c = .OP ∨ (c = .OP_IMM ∧ funct3 ≠ 0#3)) ∧
    (c.op funct3 = .CMP ↔ c = .BRANCH) ∧
    (c.op funct3 = .NOP ↔ c ∈ [.MISC_MEM, .SYSTEM] ∨ c = .ILLEGAL) := by
  cases c with
  | OP_IMM => by_cases h : funct3 = 0#3 <;> simp [HandlerClass.op, h]
  | _ => simp [HandlerClass.op]

theorem HandlerClass.op2_eq_iff :
    (c.op2 = .NOP ↔ c ∈ [.LUI, .AUIPC, .OP_IMM, .OP, .MISC_MEM]) ∧ (c.op2 = .JMP ↔ c = .JAL) ∧
    (c.op2 = .JPR ↔ c = .JALR) ∧ (c.op2 = .JCC ↔ c = .BRANCH) ∧ (c.op2 = .LD ↔ c = .LOAD) ∧
    (c.op2 = .ST ↔ c = .STORE) ∧ (c.op2 = .SPC ↔ c = .SYSTEM) ∧ (c.op2 = .EXP ↔ c = .ILLEGAL) := by
  cases c <;> decide

end

section
variable (c : HandlerClass) (f : RawFields) (m : Immediates)

@[simp] theorem handlerOf_opcode : (handlerOf c f m).opcode = f.opcode := by cases c <;> rfl
@[simp] theorem handlerOf_funct3 : (handlerOf c f m).funct3 = f.funct3 := by cases c <;> rfl
@[simp] theorem handlerOf_funct7 : (handlerOf c f m).funct7 = f.funct7 := by cases c <;> rfl

theorem handlerOf_rd : (handlerOf c f m).rd =
    if c ∈ [.LUI, .AUIPC, .JAL, .JALR, .LOAD, .OP_IMM, .OP] then rawIndex f.rd else 0#6 := by cases c <;> rfl

theorem handlerOf_rs1 : (handlerOf c f m).rs1 =
    if c = .AUIPC then sentPc else if c ≠ .ILLEGAL then rawIndex f.rs1 else 0#6 := by cases c <;> rfl

theorem handlerOf_rs2 : (handlerOf c f m).rs2 =
    if c ∈ [.LUI, .AUIPC, .LOAD, .STORE, .OP_IMM] then sentImm
    else if c ∈ [.JAL, .JALR] then sentPc4
    else if c ≠ .ILLEGAL then rawIndex f.rs2 else 0#6 := by cases c <;> rfl

theorem handlerOf_rs3 : (handlerOf c f m).rs3 = if c = .STORE then rawIndex f.rs2 else 0#6 := by cases c <;> rfl

theorem handlerOf_op : (handlerOf c f m).op = c.op f.funct3 := by cases c <;> rfl
theorem handlerOf_op2 : (handlerOf c f m).op2 = c.op2 := by cases c <;> rfl

/-- Every handler's record is in the ranges of rule R12's table, whatever fields and immediates it reads. -/
theorem handlerOf_legal : LegalRecord (handlerOf c f m) where
  rd := by
    rw [handlerOf_rd]
    split
    · exact rawIndex_lt _
    · decide
  rs1 := by
    rw [handlerOf_rs1]
    split_ifs
    · exact .inr rfl
    · exact .inl (rawIndex_lt _)
    · exact .inl (by decide)
  rs2 := by
    rw [handlerOf_rs2]
    split_ifs
    · exact .inr (.inl rfl)
    · exact .inr (.inr rfl)
    · exact .inl (rawIndex_lt _)
    · exact .inl (by decide)
  rs3 := by
    rw [handlerOf_rs3]
    split
    · exact rawIndex_lt _
    · decide
  op := by rw [handlerOf_op]; exact HandlerClass.op_mem ..
  op2 := by rw [handlerOf_op2]; exact HandlerClass.op2_mem ..

end

/-- The condition on the opcode under which rule R50 selects a class. -/
def HandlerClass.Selects : HandlerClass → BitVec 7 → Prop
  | .LUI, opc => opc = 0x37#7
  | .AUIPC, opc => opc = 0x17#7
  | .JAL, opc => opc = 0x6f#7
  | .JALR, opc => opc = 0x67#7
  | .BRANCH, opc => opc = 0x63#7
  | .LOAD, opc => opc = 0x03#7
  | .STORE, opc => opc = 0x23#7
  | .OP_IMM, opc => opc = 0x13#7
  | .OP, opc => opc = 0x33#7
  | .MISC_MEM, opc => opc = 0x0f#7
  | .SYSTEM, opc => opc = 0x73#7
  | .ILLEGAL, opc => recognised opc = false

/-- A class is selected exactly by the opcodes of its own: each class against the 128 opcodes. -/
theorem handlerClass_eq_iff (opc : BitVec 7) (c : HandlerClass) : handlerClass opc = c ↔ c.Selects opc := by
  cases c <;> simp only [HandlerClass.Selects] <;> decide +revert

/-- Settles O27: which index a handler passes on depends on the class alone, and the class on the opcode alone. -/
theorem indexSources : Obligations.IndexSources := by
  intro w
  refine ⟨?_, ?_, ?_⟩
  · simp [decodeRecord, handlerOf_rd, handlerClass_eq_iff, HandlerClass.Selects, rawIndex, fRd]
  · simp [decodeRecord, handlerOf_rs1, handlerClass_eq_iff, HandlerClass.Selects, rawIndex, fRs1, sentPc]
  · simp [decodeRecord, handlerOf_rs2, handlerClass_eq_iff, HandlerClass.Selects, rawIndex, fRs2, sentImm, sentPc4]

/-- Settles O28: `rs3` is raw in the class STORE only, and that class has one opcode. -/
theorem storeDataIndexOnlyForStores : Obligations.StoreDataIndexOnlyForStores := by
  intro w
  simp [decodeRecord, handlerOf_rs3, handlerClass_eq_iff, HandlerClass.Selects, rawIndex, fRs2]

/-- Settles O29: all twelve handlers pass the three fields on as the extractor reads them. -/
theorem rawFieldsPassThrough : Obligations.RawFieldsPassThrough := by
  intro w
  refine ⟨?_, ?_, ?_⟩
  · rw [decodeRecord, handlerOf_opcode]; rfl
  · rw [decodeRecord, handlerOf_funct3]; rfl
  · rw [decodeRecord, handlerOf_funct7]; rfl

/-- Settles O32: `op` and `op2` are the class's, and each class is its opcodes. -/
theorem operationCodesByOpcode : Obligations.OperationCodesByOpcode := by
  intro w
  simp [decodeRecord, handlerOf_op, handlerOf_op2, HandlerClass.op_eq_iff, HandlerClass.op2_eq_iff, handlerClass_eq_iff,
    HandlerClass.Selects]

/-- The record of every word is legal, for the record of every handler is. -/
theorem decodeRecord_legal (w : Word) : LegalRecord (decodeRecord w) := handlerOf_legal ..

end Sys2Proof.Machine
end

section
/-! SUPPORT. The readings of what stands on the ports: the numbers of the operation codes (rule R17), the operand an index names
(rules R14, R18), and the bits that are taken as a word (rule R11). -/

namespace Sys2Proof.Machine

/-! ### The operation codes on their ports -/

/-- The operation codes in the source's listing order (rule R17). -/
def OpCode.all : List OpCode := [.MOV, .ADDI, .ALU, .CMP, .LD, .ST, .JMP, .JPR, .JCC, .SPC, .NOP, .EXP]

theorem OpCode.mem_all (o : OpCode) : o ∈ OpCode.all := by cases o <;> decide

/-- The default encoding is the position in the listing (decision D3). -/
theorem map_opEncDefault_all : OpCode.all.map (fun o => (opEncDefault o).toNat) = List.range 12 := rfl

theorem opEncDefault_lt (o : OpCode) : (opEncDefault o).toNat < 12 := by
  rw [← List.mem_range, ← map_opEncDefault_all]
  exact List.mem_map_of_mem o.mem_all

/-- Different codes have different positions. -/
theorem opEncDefault_injective {a b : OpCode} (h : opEncDefault a = opEncDefault b) : a = b := by
  have hnodup : (OpCode.all.map fun o => (opEncDefault o).toNat).Nodup := by
    rw [map_opEncDefault_all]
    exact List.nodup_range
  exact List.inj_on_of_nodup_map hnodup a.mem_all b.mem_all (congrArg BitVec.toNat h)

/-- The ports show every field of the record, the operation codes by their numbers. -/
theorem Instruction.eq_of_ports_eq {opEnc : OpCode → BitVec 4} (hinj : ∀ a b, opEnc a = opEnc b → a = b) {q r : Instruction}
    (h : q.ports opEnc = r.ports opEnc) : q = r := by
  cases q
  cases r
  simp only [Instruction.ports, Ports.mk.injEq] at h
  obtain ⟨hopcode, hrd, hrs1, hrs2, hrs3, hfunct3, hfunct7, himmd, hop, hop2⟩ := h
  simp only [Instruction.mk.injEq]
  exact ⟨hopcode, hrd, hrs1, hrs2, hrs3, hfunct3, hfunct7, himmd, hinj _ _ hop, hinj _ _ hop2⟩

/-- Settles O46: the default numbers are the positions in the listing, and the ports lose no field of a record. -/
theorem operationCodeEncoding : Obligations.OperationCodeEncoding := by
  refine ⟨map_opEncDefault_all, fun _ _ => opEncDefault_injective, fun w => ⟨?_, ?_⟩,
    fun _ hinj _ _ => Instruction.eq_of_ports_eq hinj⟩
  · exact opEncDefault_lt (decodeRecord w).op
  · exact opEncDefault_lt (decodeRecord w).op2

/-! ### The operand an index names -/

theorem operandOfIndex_of_raw {x : BitVec 6} (h : IsRawIndex x) : operandOfIndex x = some (.register (x.setWidth 5)) :=
  if_pos h

theorem rawIndex_toNat (i : BitVec 5) : (rawIndex i).toNat = i.toNat := BitVec.toNat_setWidth_of_le (by decide)

theorem setWidth_rawIndex (i : BitVec 5) : (rawIndex i).setWidth 5 = i := by simp [rawIndex]

/-- Reading an operand's index gives the operand back. -/
@[simp] theorem operandOfIndex_index (o : Operand) : operandOfIndex o.index = some o := by
  cases o with
  | register i => rw [Operand.index, operandOfIndex_of_raw (rawIndex_lt i), setWidth_rawIndex]
  | immediate | programCounter | programCounterPlusFour => rfl

/-- The indices that name an operand are the 32 register numbers and the three sentinels that follow them. -/
theorem operandOfIndex_eq_none_iff (x : BitVec 6) : operandOfIndex x = none ↔ 35 ≤ x.toNat := by
  unfold operandOfIndex sentImm sentPc sentPc4
  split_ifs with hraw himm hpc hpc4
  · exact iff_of_false (by simp) (by omega)
  · simp [himm]
  · simp [hpc]
  · simp [hpc4]
  · exact iff_of_true rfl (by bv_omega)

/-- Settles O47: a legal record's index is a raw field, read as a register, or the index of one of the three other operands. -/
theorem everyIndexIsARegisterNumberOrASentinel : Obligations.EveryIndexIsARegisterNumberOrASentinel := by
  refine ⟨operandOfIndex_index, operandOfIndex_eq_none_iff, rfl, rfl, rfl, rawIndex_toNat, fun w => ?_⟩
  obtain ⟨hrd, hrs1, hrs2, hrs3, -, -⟩ := decodeRecord_legal w
  refine ⟨⟨_, operandOfIndex_of_raw hrd⟩, ?_, ?_, ⟨_, operandOfIndex_of_raw hrs3⟩⟩
  · rcases hrs1 with hraw | hpc
    · exact ⟨_, operandOfIndex_of_raw hraw⟩
    · exact ⟨.programCounter, by rw [hpc]; rfl⟩
  · rcases hrs2 with hraw | himm | hpc4
    · exact ⟨_, operandOfIndex_of_raw hraw⟩
    · exact ⟨.immediate, by rw [himm]; rfl⟩
    · exact ⟨.programCounterPlusFour, by rw [hpc4]; rfl⟩

/-! ### The bits taken as a word -/

theorem decodeBits_of_fits {nbits n : Nat} (h : nbits ≤ 32 ∧ n < 2 ^ nbits) :
    decodeBits nbits n = .ok (decodeInstr (BitVec.ofNat 32 n)) := if_pos h

theorem decodeBits_of_not_fits {nbits n : Nat} (h : ¬(nbits ≤ 32 ∧ n < 2 ^ nbits)) :
    decodeBits nbits n = .error .notOneWord := if_neg h

/-- Settles O48: `decodeBits` has these two cases, and a table word is what it decodes to, if anything. -/
theorem bitsThatDoNotFitAWordAreRejected : Obligations.BitsThatDoNotFitAWordAreRejected := by
  intro nbits n
  constructor
  · intro hfits
    rw [decodeTableWord, decodeBits_of_fits hfits]
    rfl
  · intro hnot
    rw [decodeTableWord, decodeBits_of_not_fits hnot]
    exact ⟨rfl, rfl⟩

end Sys2Proof.Machine
end

section
/-! SUPPORT. What a step keeps, and what holds at every instant of the block (rules R10, R26). -/

namespace Sys2Proof.Machine

/-- Settles O20: what an instruction drives is its own word's record, whatever the state. -/
theorem execLeavesTheInputAlone : Obligations.ExecLeavesTheInputAlone := by
  intro i s s' t u ht hu
  rw [exec_eq_decodeRecord] at ht hu
  cases ht
  cases hu
  exact ⟨rfl, rfl, rfl⟩

/-- All that a step can do: it keeps the word and leaves the outputs settled. -/
theorem step_next {s t : State} (h : step s = .next t) : Settled t ∧ t.word = s.word := by
  rw [step_eq_decodeRecord] at h
  cases h
  exact ⟨rfl, rfl⟩

theorem step_of_settled {s : State} (h : Settled s) : step s = .next s := by
  rw [step_eq_decodeRecord, ← h]

/-- A settled state shows a legal record. -/
theorem Settled.legal {s : State} (h : Settled s) : LegalRecord s.out := by
  rw [h]
  exact decodeRecord_legal s.word

/-- Settled states with one word are one state: nothing but the word is there. -/
theorem Settled.eq_of_word_eq {s t : State} (hs : Settled s) (ht : Settled t) (hw : s.word = t.word) : s = t :=
  State.eq_of_ports hw (by rw [hs, ht, hw])

/-- Settles O23: this is what a step can do, from any state. -/
theorem stepSettlesTheOutputs : Obligations.StepSettlesTheOutputs := fun _ _ => step_next

/-- Settles O24: a step leaves the outputs settled, and the record of every word is legal. -/
theorem stepKeepsRecordsLegal : Obligations.StepKeepsRecordsLegal :=
  ⟨fun _ _ _ h => (step_next h).1.legal, decodeRecord_legal⟩

/-- Settles O49: a settled state is a fixed point, and a step is the block's own step on the unit state and the word. -/
theorem stepChangesNothingOnceSettled : Obligations.StepChangesNothingOnceSettled := by
  refine ⟨fun _ => step_of_settled, fun s t h => ?_⟩
  obtain ⟨hsettled, hword⟩ := step_next h
  refine ⟨?_, rfl, hword⟩
  rw [hsettled, hword]
  rfl

theorem settled_reset : Settled State.reset := by
  unfold Settled
  decide

theorem settled_present (s : State) (w : Word) : Settled (s.present w) := rfl

/-- Settles O25: the record written out in the reset state is the all-zero word's. -/
theorem resetIsSettledAndLegal : Obligations.ResetIsSettledAndLegal :=
  ⟨settled_reset, settled_reset.legal, rfl⟩

/-- Settles O26: the all-zero word has the reset state's record; the all-ones word is evaluated. -/
theorem idleBusRecords : Obligations.IdleBusRecords :=
  ⟨settled_reset.symm, by decide⟩

/-- The outputs follow the input at every instant (rule R26). -/
theorem Instant.settled {s : State} (h : Instant s) : Settled s := by
  induction h with
  | reset => exact settled_reset
  | present w _ _ => exact settled_present _ w
  | step _ hstep _ => exact (step_next hstep).1

/-- Settles O50: every instant is settled, and a word is presented in one presentation. -/
theorem outputsAreTheRecordAtEveryInstant : Obligations.OutputsAreTheRecordAtEveryInstant := by
  refine ⟨fun s hs => ⟨hs.settled, step_of_settled hs.settled⟩,
    fun s t hs ht => hs.settled.eq_of_word_eq ht.settled, fun w => ?_⟩
  exact ⟨State.reset.present w, .present w .reset, rfl⟩

end Sys2Proof.Machine
end

section
/-! SUPPORT. What the block gives for a stream of words, presented one after another (rules R35, R153). -/

namespace Sys2Proof.Machine

/-- The first word's step completes with its record, and the rest of the stream is presented from the state it leaves. -/
@[simp] theorem recordsOf_cons (s : State) (w : Word) (ws : List Word) :
    recordsOf s (w :: ws) = decodeRecord w :: recordsOf (s.present w) ws := by
  simp only [recordsOf, step_of_settled (settled_present s w), State.present_out]

/-- Settles O22, by induction on the stream, from every state: the state a word leaves does not show in the later records. -/
theorem streamIsDecodedWordByWord : Obligations.StreamIsDecodedWordByWord := by
  intro s ws
  induction ws generalizing s with
  | nil => rfl
  | cons w ws ih => rw [recordsOf_cons, ih, List.map_cons]

end Sys2Proof.Machine
end

section
/-! SUPPORT. The dispatcher's twelve conditions are the twelve values of one function of the opcode, so exactly one of them holds
(rules R50, R55). -/

namespace Sys2Proof.Machine

/-- Rule R50's twelve conditions on an opcode, the default last, are the comparisons of its class with each of the twelve. -/
theorem conditions_eq_classes (opc : BitVec 7) :
    [opc == 0x37#7, opc == 0x17#7, opc == 0x6f#7, opc == 0x67#7, opc == 0x63#7, opc == 0x03#7, opc == 0x23#7,
      opc == 0x13#7, opc == 0x33#7, opc == 0x0f#7, opc == 0x73#7, !recognised opc] =
    [HandlerClass.LUI, .AUIPC, .JAL, .JALR, .BRANCH, .LOAD, .STORE, .OP_IMM, .OP, .MISC_MEM, .SYSTEM, .ILLEGAL].map
      fun c => decide (handlerClass opc = c) := by
  simp [handlerClass_eq_iff, HandlerClass.Selects, beq_eq_decide]

theorem decodeRecord_of_selects (w : Word) (c : HandlerClass) (h : c.Selects (fOpcode w)) :
    decodeRecord w = handlerOf c (extract w) (resolve w) :=
  decodeRecord_of_class ((handlerClass_eq_iff _ c).mpr h)

/-- Settles O5: the conditions ask for the values of `handlerClass`, of which an opcode has one. -/
theorem exactlyOneHandlerRunsPerWord : Obligations.ExactlyOneHandlerRunsPerWord := by
  intro w
  refine ⟨?_, decodeRecord_of_selects w .LUI, decodeRecord_of_selects w .AUIPC, decodeRecord_of_selects w .JAL,
    decodeRecord_of_selects w .JALR, decodeRecord_of_selects w .BRANCH, decodeRecord_of_selects w .LOAD,
    decodeRecord_of_selects w .STORE, decodeRecord_of_selects w .OP_IMM, decodeRecord_of_selects w .OP,
    decodeRecord_of_selects w .MISC_MEM, decodeRecord_of_selects w .SYSTEM, decodeRecord_of_selects w .ILLEGAL,
    List.contains_iff_mem⟩
  rw [conditions_eq_classes]
  cases handlerClass (fOpcode w) <;> rfl

/-- The eleven recognised opcodes all end in 0b11 (rule R55). -/
theorem low_bits_of_recognised {opc : BitVec 7} (h : recognised opc = true) : opc.extractLsb' 0 2 = 3#2 := by
  simp only [recognised, List.contains_iff_mem, List.mem_cons, List.not_mem_nil, or_false] at h
  rcases h with h | h | h | h | h | h | h | h | h | h | h <;> subst h <;> rfl

/-- Settles O31: a word that ends otherwise has an unrecognised opcode, whose class is marked. -/
theorem compressedSpaceIsMarkedIllegal : Obligations.CompressedSpaceIsMarkedIllegal := by
  intro w hlow
  have hopc : recognised (fOpcode w) = false := by
    by_contra hrec
    have hopcode := low_bits_of_recognised (eq_true_of_ne_false hrec)
    have hword : (fOpcode w).extractLsb' 0 2 = w.extractLsb' 0 2 := by
      ext i hi
      simp [fOpcode]
    exact hlow (hword ▸ hopcode)
  rw [decodeRecord_of_selects w .ILLEGAL hopc]
  rfl

end Sys2Proof.Machine
end

section
/-! SUPPORT. The range of each resolved immediate, from the width and the parity of the field its format carries (the table after
rule R43). -/

namespace Sys2Proof.Machine

section
variable (w : Word)

theorem immI_z_eq_field : immI_z w = (immFieldI w).setWidth 32 := by
  ext i hi
  simp [immI_z, immFieldI]
  interval_cases i <;> simp

theorem immS_z_eq_field : immS_z w = (immFieldS w).setWidth 32 := by
  ext i hi
  simp [immS_z, immFieldS]
  interval_cases i <;> simp

theorem immB_z_eq_field : immB_z w = (offsetB w).setWidth 32 := by
  ext i hi
  simp [immB_z, offsetB]
  interval_cases i <;> simp

theorem immJ_z_eq_field : immJ_z w = (offsetJ w).setWidth 32 := by
  ext i hi
  simp [immJ_z, offsetJ]
  interval_cases i <;> simp

theorem immU_z_eq_field : immU_z w = (immFieldU w).setWidth 32 <<< 12 := by
  ext i hi
  simp [immU_z, immFieldU]
  interval_cases i <;> simp

/-- A branch offset is even (rule R75). -/
theorem offsetB_even : (offsetB w).getLsbD 0 = false := by simp [offsetB]

/-- A jump offset is even (rule R77). -/
theorem offsetJ_even : (offsetJ w).getLsbD 0 = false := by simp [offsetJ]

end

/-- A field read as an unsigned number by zero extension. -/
theorem toNat_setWidth_le {n : Nat} (x : BitVec n) (hn : n ≤ 32) : (x.setWidth 32).toNat ≤ 2 ^ n - 1 := by
  rw [BitVec.toNat_setWidth_of_le hn]
  have := x.isLt
  omega

/-- A field read as a signed number by sign extension. -/
theorem toInt_signExtend_range {n : Nat} (x : BitVec n) (hn : n ≤ 32) :
    -2 ^ (n - 1) ≤ (x.signExtend 32).toInt ∧ (x.signExtend 32).toInt ≤ 2 ^ (n - 1) - 1 := by
  rw [BitVec.toInt_signExtend_of_le hn]
  have hlow := x.le_toInt
  have hhigh := x.toInt_lt
  omega

theorem toNat_even {n : Nat} {x : BitVec n} (h : x.getLsbD 0 = false) : x.toNat % 2 = 0 := by
  simpa [BitVec.getLsbD, Nat.testBit_zero] using h

theorem toInt_even {n : Nat} {x : BitVec (n + 1)} (h : x.getLsbD 0 = false) : x.toInt % 2 = 0 := by
  have hnat := toNat_even h
  rw [BitVec.toInt_eq_toNat_cond, pow_succ]
  split <;> omega

/-- An even number does not reach the odd upper end of its range. -/
theorem toNat_setWidth_le_of_even {n : Nat} {x : BitVec (n + 1)} (hn : n + 1 ≤ 32) (h : x.getLsbD 0 = false) :
    (x.setWidth 32).toNat ≤ 2 ^ (n + 1) - 2 := by
  have hle := toNat_setWidth_le x hn
  have heven := toNat_even h
  rw [BitVec.toNat_setWidth_of_le hn] at hle ⊢
  omega

theorem toInt_signExtend_range_of_even {n : Nat} {x : BitVec (n + 2)} (hn : n + 2 ≤ 32) (h : x.getLsbD 0 = false) :
    -2 ^ (n + 1) ≤ (x.signExtend 32).toInt ∧ (x.signExtend 32).toInt ≤ 2 ^ (n + 1) - 2 := by
  obtain ⟨hlow, hhigh⟩ := toInt_signExtend_range x hn
  have heven := toInt_even h
  rw [BitVec.toInt_signExtend_of_le hn] at hlow hhigh ⊢
  simp only [Nat.add_one_sub_one, pow_succ] at hlow hhigh ⊢
  omega

/-- Settles O44: an immediate is a field of `n` bits read as a number, and the branch and jump offsets are even. -/
theorem immediateRanges : Obligations.ImmediateRanges := by
  intro w
  refine ⟨?_, ?_, ?_, ?_, ?_, ?_, ?_, ?_, ?_⟩
  · rw [immI_z_eq_field]
    exact toNat_setWidth_le _ (by decide)
  · rw [immS_z_eq_field]
    exact toNat_setWidth_le _ (by decide)
  · rw [immB_z_eq_field]
    exact toNat_setWidth_le_of_even (by decide) (offsetB_even w)
  · rw [immJ_z_eq_field]
    exact toNat_setWidth_le_of_even (by decide) (offsetJ_even w)
  · rw [immI_s_eq_field]
    exact toInt_signExtend_range _ (by decide)
  · rw [immS_s_eq_field]
    exact toInt_signExtend_range _ (by decide)
  · rw [immB_s_eq_field]
    exact toInt_signExtend_range_of_even (by decide) (offsetB_even w)
  · rw [immJ_s_eq_field]
    exact toInt_signExtend_range_of_even (by decide) (offsetJ_even w)
  · rw [immU_z_eq_field, BitVec.toNat_shiftLeft, Nat.shiftLeft_eq]
    omega

end Sys2Proof.Machine
end

section
/-! SUPPORT. Which bits of a word each output reads (rule R57): a field read from two words is the same exactly when the words agree on
the bits that the field holds, and the records' fields are those fields. -/

namespace Sys2Proof.Machine

/-! ### Agreement of two words on a mask -/

/-- The words have the same bits wherever the mask has a 1. -/
def AgreeOn (mask v w : Word) : Prop := v &&& mask = w &&& mask

section
variable {mask : Word} {v w : Word}

theorem agreeOn_iff_bits : AgreeOn mask v w ↔ ∀ i < 32, mask.getLsbD i = true → v.getLsbD i = w.getLsbD i := by
  simp only [AgreeOn, BitVec.eq_of_getLsbD_eq_iff, BitVec.getLsbD_and]
  refine forall₂_congr fun i _ => ?_
  cases mask.getLsbD i <;> simp

@[simp] theorem agreeOn_zero : AgreeOn 0#32 v w := by simp [AgreeOn]

/-- Masks are joined: in a proof, the masks of a record's fields become one mask. -/
theorem agreeOn_and_agreeOn {m n : Word} : AgreeOn m v w ∧ AgreeOn n v w ↔ AgreeOn (m ||| n) v w := by
  simp only [agreeOn_iff_bits, BitVec.getLsbD_or, Bool.or_eq_true, or_imp, forall_and]

/-- A contiguous field shows the bits of its place. -/
theorem extract_eq_iff_agreeOn (lo n : Nat) (hmask : place lo (BitVec.allOnes n) = mask) :
    v.extractLsb' lo n = w.extractLsb' lo n ↔ AgreeOn mask v w := by
  subst hmask
  simp only [agreeOn_iff_bits, BitVec.eq_of_getLsbD_eq_iff, place, BitVec.getLsbD_extractLsb', BitVec.getLsbD_shiftLeft,
    BitVec.getLsbD_setWidth, BitVec.getLsbD_allOnes]
  constructor
  · intro h i hi hbit
    simp at hbit
    have := h (i - lo) (by omega)
    simpa [show i - lo < n by omega, show lo + (i - lo) = i by omega] using this
  · intro h i hi
    by_cases hlt : lo + i < 32
    · simp [hi, h (lo + i) hlt (by simp; omega)]
    · simp [BitVec.getLsbD_of_ge _ _ (show 32 ≤ lo + i by omega)]

/-! ### The raw fields and the immediates -/

theorem fOpcode_eq_iff : fOpcode v = fOpcode w ↔ AgreeOn 0x0000007F#32 v w := extract_eq_iff_agreeOn 0 7 rfl
theorem fRd_eq_iff : fRd v = fRd w ↔ AgreeOn 0x00000F80#32 v w := extract_eq_iff_agreeOn 7 5 rfl
theorem fFunct3_eq_iff : fFunct3 v = fFunct3 w ↔ AgreeOn 0x00007000#32 v w := extract_eq_iff_agreeOn 12 3 rfl
theorem fRs1_eq_iff : fRs1 v = fRs1 w ↔ AgreeOn 0x000F8000#32 v w := extract_eq_iff_agreeOn 15 5 rfl
theorem fRs2_eq_iff : fRs2 v = fRs2 w ↔ AgreeOn 0x01F00000#32 v w := extract_eq_iff_agreeOn 20 5 rfl
theorem fFunct7_eq_iff : fFunct7 v = fFunct7 w ↔ AgreeOn 0x7E000000#32 v w := extract_eq_iff_agreeOn 25 6 rfl
/-- The seven upper immediate bits of the S and B formats. -/
theorem immHighBits_eq_iff : v.extractLsb' 25 7 = w.extractLsb' 25 7 ↔ AgreeOn 0xFE000000#32 v w := extract_eq_iff_agreeOn 25 7 rfl
theorem immFieldI_eq_iff : immFieldI v = immFieldI w ↔ AgreeOn 0xFFF00000#32 v w := extract_eq_iff_agreeOn 20 12 rfl
theorem immFieldU_eq_iff : immFieldU v = immFieldU w ↔ AgreeOn 0xFFFFF000#32 v w := extract_eq_iff_agreeOn 12 20 rfl

end

/-! A scattered field is put together from its pieces, and each piece of it is read back from it. -/

section
variable (w : Word)

theorem extract_immFieldS :
    (immFieldS w).extractLsb' 5 7 = w.extractLsb' 25 7 ∧ (immFieldS w).extractLsb' 0 5 = w.extractLsb' 7 5 := by
  constructor <;> (ext i hi; simp [immFieldS]; interval_cases i <;> simp)

theorem extract_offsetB :
    (offsetB w).extractLsb' 12 1 = w.extractLsb' 31 1 ∧ (offsetB w).extractLsb' 11 1 = w.extractLsb' 7 1 ∧
    (offsetB w).extractLsb' 5 6 = w.extractLsb' 25 6 ∧ (offsetB w).extractLsb' 1 4 = w.extractLsb' 8 4 := by
  rw [← piece31_encB _ (fRs2 w) (fRs1 w) (fFunct3 w) (fOpcode w), ← piece7_encB _ (fRs2 w) (fRs1 w) (fFunct3 w) (fOpcode w),
    ← piece25_encB _ (fRs2 w) (fRs1 w) (fFunct3 w) (fOpcode w), ← piece8_encB _ (fRs2 w) (fRs1 w) (fFunct3 w) (fOpcode w),
    encB_fields]
  exact ⟨rfl, rfl, rfl, rfl⟩

theorem extract_offsetJ :
    (offsetJ w).extractLsb' 20 1 = w.extractLsb' 31 1 ∧ (offsetJ w).extractLsb' 12 8 = w.extractLsb' 12 8 ∧
    (offsetJ w).extractLsb' 11 1 = w.extractLsb' 20 1 ∧ (offsetJ w).extractLsb' 1 10 = w.extractLsb' 21 10 := by
  rw [← piece31_encJ _ (fRd w) (fOpcode w), ← piece12_encJ _ (fRd w) (fOpcode w), ← piece20_encJ _ (fRd w) (fOpcode w),
    ← piece21_encJ _ (fRd w) (fOpcode w), encJ_fields]
  exact ⟨rfl, rfl, rfl, rfl⟩

end

section
variable {v w : Word}

theorem immFieldS_eq_iff : immFieldS v = immFieldS w ↔ AgreeOn 0xFE000F80#32 v w := by
  have hpieces : immFieldS v = immFieldS w ↔
      v.extractLsb' 25 7 = w.extractLsb' 25 7 ∧ v.extractLsb' 7 5 = w.extractLsb' 7 5 := by
    refine ⟨fun h => ?_, fun ⟨h25, h7⟩ => by rw [immFieldS, immFieldS, h25, h7]⟩
    simp only [← extract_immFieldS, h, and_self]
  rw [hpieces, immHighBits_eq_iff, extract_eq_iff_agreeOn 7 5 rfl, agreeOn_and_agreeOn]
  rfl

theorem offsetB_eq_iff : offsetB v = offsetB w ↔ AgreeOn 0xFE000F80#32 v w := by
  have hpieces : offsetB v = offsetB w ↔
      v.extractLsb' 31 1 = w.extractLsb' 31 1 ∧ v.extractLsb' 7 1 = w.extractLsb' 7 1 ∧
      v.extractLsb' 25 6 = w.extractLsb' 25 6 ∧ v.extractLsb' 8 4 = w.extractLsb' 8 4 := by
    refine ⟨fun h => ?_, fun ⟨h31, h7, h25, h8⟩ => by rw [offsetB, offsetB, h31, h7, h25, h8]⟩
    simp only [← extract_offsetB, h, and_self]
  rw [hpieces, extract_eq_iff_agreeOn 31 1 rfl, extract_eq_iff_agreeOn 7 1 rfl, extract_eq_iff_agreeOn 25 6 rfl,
    extract_eq_iff_agreeOn 8 4 rfl, agreeOn_and_agreeOn, agreeOn_and_agreeOn, agreeOn_and_agreeOn]
  rfl

theorem offsetJ_eq_iff : offsetJ v = offsetJ w ↔ AgreeOn 0xFFFFF000#32 v w := by
  have hpieces : offsetJ v = offsetJ w ↔
      v.extractLsb' 31 1 = w.extractLsb' 31 1 ∧ v.extractLsb' 12 8 = w.extractLsb' 12 8 ∧
      v.extractLsb' 20 1 = w.extractLsb' 20 1 ∧ v.extractLsb' 21 10 = w.extractLsb' 21 10 := by
    refine ⟨fun h => ?_, fun ⟨h31, h12, h20, h21⟩ => by rw [offsetJ, offsetJ, h31, h12, h20, h21]⟩
    simp only [← extract_offsetJ, h, and_self]
  rw [hpieces, extract_eq_iff_agreeOn 31 1 rfl, extract_eq_iff_agreeOn 12 8 rfl, extract_eq_iff_agreeOn 20 1 rfl,
    extract_eq_iff_agreeOn 21 10 rfl, agreeOn_and_agreeOn, agreeOn_and_agreeOn, agreeOn_and_agreeOn]
  rfl

theorem signExtend_inj {n : Nat} (hn : n ≤ 32) {x y : BitVec n} : x.signExtend 32 = y.signExtend 32 ↔ x = y := by
  rw [← BitVec.toInt_inj, BitVec.toInt_signExtend_of_le hn, BitVec.toInt_signExtend_of_le hn, BitVec.toInt_inj]

theorem immI_s_eq_iff : immI_s v = immI_s w ↔ AgreeOn 0xFFF00000#32 v w := by
  rw [immI_s_eq_field, immI_s_eq_field, signExtend_inj (by decide), immFieldI_eq_iff]

theorem immS_s_eq_iff : immS_s v = immS_s w ↔ AgreeOn 0xFE000F80#32 v w := by
  rw [immS_s_eq_field, immS_s_eq_field, signExtend_inj (by decide), immFieldS_eq_iff]

theorem immB_s_eq_iff : immB_s v = immB_s w ↔ AgreeOn 0xFE000F80#32 v w := by
  rw [immB_s_eq_field, immB_s_eq_field, signExtend_inj (by decide), offsetB_eq_iff]

theorem immJ_s_eq_iff : immJ_s v = immJ_s w ↔ AgreeOn 0xFFFFF000#32 v w := by
  rw [immJ_s_eq_field, immJ_s_eq_field, signExtend_inj (by decide), offsetJ_eq_iff]

theorem immU_z_eq_iff : immU_z v = immU_z w ↔ AgreeOn 0xFFFFF000#32 v w := Iff.rfl

/-- The masked I immediate is the raw `rs2` field (rule R105). -/
theorem immI_s_masked (w : Word) : immI_s w &&& 0x0000001f#32 = (fRs2 w).setWidth 32 := by
  rw [immI_s_eq_field]
  ext i hi
  simp [immFieldI, fRs2, BitVec.getElem_signExtend]
  interval_cases i <;> simp

theorem shiftImm_eq_iff :
    immI_s v &&& 0x0000001f#32 = immI_s w &&& 0x0000001f#32 ↔ AgreeOn 0x01F00000#32 v w := by
  rw [immI_s_masked, immI_s_masked, ← fRs2_eq_iff]
  exact ⟨fun h => by simpa using congrArg (BitVec.setWidth 5) h, fun h => by rw [h]⟩

theorem rawIndex_inj {f g : BitVec 5} : rawIndex f = rawIndex g ↔ f = g := ⟨rawIndex_injective, fun h => by rw [h]⟩

end

/-! ### The immediate of each class -/

/-- `immd` of each class; OP_IMM looks at the two low bits of funct3 (the table after rule R17, rule R105). -/
def HandlerClass.immd (low : BitVec 2) (m : Immediates) : HandlerClass → Word
  | .LUI | .AUIPC => m.immU_z
  | .JAL => m.immJ_s
  | .BRANCH => m.immB_s
  | .STORE => m.immS_s
  | .LOAD | .MISC_MEM | .SYSTEM => m.immI_s
  | .OP_IMM => if low = 1#2 then m.immI_s &&& 0x0000001f#32 else m.immI_s
  | .JALR | .OP | .ILLEGAL => 0#32

/-- The word bits that `immd` shows (the last row of rule R57's table, with conflict C7). -/
def HandlerClass.immdBits (low : BitVec 2) : HandlerClass → Word
  | .LUI | .AUIPC | .JAL => 0xFFFFF000#32
  | .BRANCH | .STORE => 0xFE000F80#32
  | .LOAD | .MISC_MEM | .SYSTEM => 0xFFF00000#32
  | .OP_IMM => if low = 1#2 then 0x01F00000#32 else 0xFFF00000#32
  | .JALR | .OP | .ILLEGAL => 0#32

/-- The shifts of opcode 0x13 are the values of funct3 that end in 0b01. -/
theorem shift_iff (funct3 : BitVec 3) : funct3 = 1#3 ∨ funct3 = 5#3 ↔ funct3.extractLsb' 0 2 = 1#2 := by
  decide +revert

theorem handlerOf_immd (c : HandlerClass) (f : RawFields) (m : Immediates) :
    (handlerOf c f m).immd = c.immd (f.funct3.extractLsb' 0 2) m := by
  cases c with
  | OP_IMM => simp only [handlerOf, handlerOpImm, HandlerClass.immd, shift_iff]
  | _ => rfl

theorem HandlerClass.immd_eq_iff (c : HandlerClass) (low : BitVec 2) {v w : Word} :
    c.immd low (resolve v) = c.immd low (resolve w) ↔ AgreeOn (c.immdBits low) v w := by
  cases c with
  | LUI | AUIPC => exact immU_z_eq_iff
  | JAL => exact immJ_s_eq_iff
  | BRANCH => exact immB_s_eq_iff
  | STORE => exact immS_s_eq_iff
  | LOAD | MISC_MEM | SYSTEM => exact immI_s_eq_iff
  | OP_IMM =>
    simp only [HandlerClass.immd, HandlerClass.immdBits]
    split_ifs
    · exact shiftImm_eq_iff
    · exact immI_s_eq_iff
  | JALR | OP | ILLEGAL => exact iff_of_true rfl agreeOn_zero

end Sys2Proof.Machine
end

section
/-! SUPPORT. Records and the word bits they show (rule R57): the record as a whole by the live bits of the word's class, and each
output by the bits it depends on. -/

namespace Sys2Proof.Machine

/-- The two low bits of funct3, by which opcode 0x13 tells its shifts. -/
def lowFunct3 (w : Word) : BitVec 2 := (fFunct3 w).extractLsb' 0 2

theorem lowFunct3_eq (w : Word) : lowFunct3 w = w.extractLsb' 12 2 := by
  ext i hi
  simp [lowFunct3, fFunct3]
  omega

section
variable (w : Word)
@[simp] theorem decodeRecord_opcode : (decodeRecord w).opcode = fOpcode w := handlerOf_opcode ..
@[simp] theorem decodeRecord_funct3 : (decodeRecord w).funct3 = fFunct3 w := handlerOf_funct3 ..
@[simp] theorem decodeRecord_funct7 : (decodeRecord w).funct7 = fFunct7 w := handlerOf_funct7 ..
theorem decodeRecord_op : (decodeRecord w).op = (handlerClass (fOpcode w)).op (fFunct3 w) := handlerOf_op ..
theorem decodeRecord_op2 : (decodeRecord w).op2 = (handlerClass (fOpcode w)).op2 := handlerOf_op2 ..
theorem decodeRecord_immd : (decodeRecord w).immd = (handlerClass (fOpcode w)).immd (lowFunct3 w) (resolve w) :=
  handlerOf_immd ..
end

/-! ### The record as a whole -/

/-- The bits of the three fields that every record shows raw: opcode, funct3 and funct7 (rules R13, R15). -/
def rawBits : Word := 0x7E00707F#32

/-- The bits that a class's four register indices show: rd, rs1 and rs2 are word bits 11:7, 19:15 and 24:20 (rules R14, R18, R19). -/
def HandlerClass.indexBits : HandlerClass → Word
  | .LUI | .JAL | .JALR | .LOAD | .OP_IMM => 0x000F8F80#32
  | .AUIPC => 0x00000F80#32
  | .BRANCH | .STORE | .MISC_MEM | .SYSTEM => 0x01FF8000#32
  | .OP => 0x01FF8F80#32
  | .ILLEGAL => 0#32

section
variable {v w : Word}

theorem rawFields_eq_iff :
    fOpcode v = fOpcode w ∧ fFunct3 v = fFunct3 w ∧ fFunct7 v = fFunct7 w ↔ AgreeOn rawBits v w := by
  rw [fOpcode_eq_iff, fFunct3_eq_iff, fFunct7_eq_iff, agreeOn_and_agreeOn, agreeOn_and_agreeOn]
  rfl

/-- Each index is a raw field or constant by the class, so the indices show the raw fields among them. -/
theorem indices_eq_iff (c : HandlerClass) (m n : Immediates) :
    (handlerOf c (extract v) m).rd = (handlerOf c (extract w) n).rd ∧
    (handlerOf c (extract v) m).rs1 = (handlerOf c (extract w) n).rs1 ∧
    (handlerOf c (extract v) m).rs2 = (handlerOf c (extract w) n).rs2 ∧
    (handlerOf c (extract v) m).rs3 = (handlerOf c (extract w) n).rs3 ↔ AgreeOn c.indexBits v w := by
  simp only [handlerOf_rd, handlerOf_rs1, handlerOf_rs2, handlerOf_rs3, extract_rd, extract_rs1, extract_rs2]
  cases c <;>
    simp [HandlerClass.indexBits, rawIndex_inj, fRd_eq_iff, fRs1_eq_iff, fRs2_eq_iff, agreeOn_and_agreeOn]

end

/-- The live bits are those of the raw fields, the indices and the immediate. -/
theorem liveBits_eq (w : Word) : liveBits w =
    rawBits ||| ((handlerClass (fOpcode w)).indexBits ||| (handlerClass (fOpcode w)).immdBits (lowFunct3 w)) := by
  simp only [liveBits, shift_iff]
  change _ = rawBits ||| (_ ||| HandlerClass.immdBits ((fFunct3 w).extractLsb' 0 2) _)
  generalize (fFunct3 w).extractLsb' 0 2 = low
  cases handlerClass (fOpcode w) <;> decide +revert

theorem Instruction.eq_iff {q r : Instruction} : q = r ↔
    (q.opcode = r.opcode ∧ q.funct3 = r.funct3 ∧ q.funct7 = r.funct7) ∧
    (q.rd = r.rd ∧ q.rs1 = r.rs1 ∧ q.rs2 = r.rs2 ∧ q.rs3 = r.rs3) ∧ q.immd = r.immd ∧ q.op = r.op ∧ q.op2 = r.op2 := by
  cases q
  cases r
  simp only [Instruction.mk.injEq]
  tauto

/-- Settles O34: once the raw fields agree, the two words have one class, which gives the records one operation and one choice of
indices and immediate. -/
theorem recordsAgreeExactlyOnLiveBits : Obligations.RecordsAgreeExactlyOnLiveBits := by
  intro v w
  change _ ↔ AgreeOn (liveBits v) v w
  rw [liveBits_eq, ← agreeOn_and_agreeOn, ← agreeOn_and_agreeOn, ← rawFields_eq_iff, Instruction.eq_iff,
    decodeRecord_opcode, decodeRecord_opcode, decodeRecord_funct3, decodeRecord_funct3, decodeRecord_funct7, decodeRecord_funct7]
  refine and_congr_right fun ⟨hopcode, hfunct3, _⟩ => and_congr ?_ ?_
  · rw [decodeRecord, decodeRecord, ← hopcode]
    exact indices_eq_iff ..
  · rw [decodeRecord_immd, decodeRecord_immd, decodeRecord_op, decodeRecord_op, decodeRecord_op2, decodeRecord_op2,
      lowFunct3, lowFunct3, ← hopcode, ← hfunct3, HandlerClass.immd_eq_iff]
    exact and_iff_left ⟨rfl, rfl⟩

/-! ### Each output -/

/-- Outside OP_IMM, funct3 takes no part in `op`. -/
theorem HandlerClass.op_congr {c : HandlerClass} {f g : BitVec 3} (h : c = .OP_IMM → f = g) : c.op f = c.op g := by
  cases c with
  | OP_IMM => rw [h rfl]
  | _ => rfl

/-- Outside OP_IMM, funct3 takes no part in `immd`. -/
theorem HandlerClass.immd_low {c : HandlerClass} (h : c ≠ .OP_IMM) (k l : BitVec 2) (m : Immediates) :
    c.immd k m = c.immd l m := by
  cases c with
  | OP_IMM => exact absurd rfl h
  | _ => rfl

section
variable {v w : Word}

/-- `immd` of two words of one opcode other than 0x13, from the bits that it shows. -/
theorem decodeRecord_immd_congr {mask : Word} (hopcode : fOpcode v = fOpcode w)
    (hclass : handlerClass (fOpcode v) ≠ .OP_IMM ∧ ∀ low, (handlerClass (fOpcode v)).immdBits low = mask) (h : AgreeOn mask v w) :
    (decodeRecord v).immd = (decodeRecord w).immd := by
  obtain ⟨hne, hbits⟩ := hclass
  rw [decodeRecord_immd, decodeRecord_immd, ← hopcode, HandlerClass.immd_low hne (lowFunct3 v) (lowFunct3 w),
    HandlerClass.immd_eq_iff, hbits]
  exact h

/-- `immd` of two words of opcode 0x13: five bits for a shift, twelve otherwise. -/
theorem decodeRecord_immd_congr_opImm (hopcode : fOpcode v = fOpcode w) (hv : fOpcode v = 0x13#7)
    (hlow : lowFunct3 v = lowFunct3 w) (hrs2 : fRs2 v = fRs2 w)
    (hhigh : lowFunct3 v = 1#2 ∨ v.extractLsb' 25 7 = w.extractLsb' 25 7) :
    (decodeRecord v).immd = (decodeRecord w).immd := by
  rw [decodeRecord_immd, decodeRecord_immd, ← hopcode, ← hlow, HandlerClass.immd_eq_iff,
    (handlerClass_eq_iff _ .OP_IMM).mpr hv]
  rw [fRs2_eq_iff] at hrs2
  unfold HandlerClass.immdBits
  split_ifs with hshift
  · exact hrs2
  · exact agreeOn_and_agreeOn.mp ⟨hrs2, immHighBits_eq_iff.mp (hhigh.resolve_left hshift)⟩

end

/-- Settles O33: the class is the opcode's, so the output is a field of the word or a constant by the opcode. -/
theorem outputsDependOnTheirBitsOnly : Obligations.OutputsDependOnTheirBitsOnly := by
  intro v w
  obtain ⟨hrdv, hrs1v, hrs2v⟩ := indexSources v
  obtain ⟨hrdw, hrs1w, hrs2w⟩ := indexSources w
  refine ⟨fun h => ?_, fun h => ?_, fun (hopcode : fOpcode v = fOpcode w) => ?_⟩
  · rw [decodeRecord_funct3, decodeRecord_funct3]; exact h
  · rw [decodeRecord_funct7, decodeRecord_funct7]; exact h
  have himmShift := decodeRecord_immd_congr_opImm (v := v) (w := w) hopcode
  rw [lowFunct3_eq, lowFunct3_eq] at himmShift
  refine ⟨?_, ?_, fun h => ?_, fun h => ?_, fun h => ?_, fun h => ⟨?_, ?_⟩, fun hmem h => ?_, fun hmem h25 h7 => ?_,
    fun hmem h => ?_, himmShift, fun hnone => ?_⟩
  · rw [decodeRecord_opcode, decodeRecord_opcode, hopcode]
  · rw [decodeRecord_op2, decodeRecord_op2, hopcode]
  · rw [decodeRecord_op, decodeRecord_op, ← hopcode]
    exact HandlerClass.op_congr fun hc => h ((handlerClass_eq_iff _ .OP_IMM).mp hc)
  · rw [hrdv, hrdw, hopcode, h]
  · rw [hrs1v, hrs1w, hopcode, h]
  · rw [hrs2v, hrs2w, hopcode, h]
  · rw [storeDataIndexOnlyForStores v, storeDataIndexOnlyForStores w, hopcode, h]
  · have hbits : ∀ opc ∈ [0x37#7, 0x17#7, 0x6f#7],
        handlerClass opc ≠ .OP_IMM ∧ ∀ low, (handlerClass opc).immdBits low = 0xFFFFF000#32 := by decide
    exact decodeRecord_immd_congr hopcode (hbits _ hmem) (immFieldU_eq_iff.mp h)
  · have hbits : ∀ opc ∈ [0x63#7, 0x23#7],
        handlerClass opc ≠ .OP_IMM ∧ ∀ low, (handlerClass opc).immdBits low = 0xFE000F80#32 := by decide
    exact decodeRecord_immd_congr hopcode (hbits _ hmem) (agreeOn_and_agreeOn.mp ⟨immHighBits_eq_iff.mp h25, fRd_eq_iff.mp h7⟩)
  · have hbits : ∀ opc ∈ [0x03#7, 0x0f#7, 0x73#7],
        handlerClass opc ≠ .OP_IMM ∧ ∀ low, (handlerClass opc).immdBits low = 0xFFF00000#32 := by decide
    exact decodeRecord_immd_congr hopcode (hbits _ hmem) (immFieldI_eq_iff.mp h)
  · have hbits : ∀ opc, opc ∈ [0x67#7, 0x33#7] ∨ recognised opc = false →
        handlerClass opc ≠ .OP_IMM ∧ ∀ low, (handlerClass opc).immdBits low = 0#32 := by decide
    exact decodeRecord_immd_congr hopcode (hbits _ hnone) agreeOn_zero

end Sys2Proof.Machine
end

section
/-! SUPPORT. Every word is the word of one well-formed instruction: what decoding reads is encoded back, and the only offsets that can
be ill-formed are read with bit 0 clear (rules R41, R75, R77). -/

namespace Sys2Proof

open Machine

theorem wellFormed_jal (rd : BitVec 5) (offset : BitVec 21) : (Instr.jal rd offset).wellFormed = !offset.getLsbD 0 := rfl
theorem wellFormed_branch (rs1 rs2 : BitVec 5) (funct3 : BitVec 3) (offset : BitVec 13) :
    (Instr.branch rs1 rs2 funct3 offset).wellFormed = !offset.getLsbD 0 := rfl

/-- A word decoded as a jump has a jump's opcode, for it is encoded back; so its operands are those that the jump's row reads. -/
theorem decodeInstr_eq_jal {w : Word} {rd : BitVec 5} {offset : BitVec 21} (h : decodeInstr w = .jal rd offset) :
    rd = fRd w ∧ offset = offsetJ w := by
  have hopc : fOpcode w = 0x6f#7 := by rw [← encode_decodeInstr w, h, encode_jal, fOpcode_encJ]
  rw [decodeInstr_eq_row hopc opcodeRow_6f, decodeJal] at h
  cases h
  exact ⟨rfl, rfl⟩

/-- Likewise, the operands of a word decoded as a branch are those that the branch's row reads. -/
theorem decodeInstr_eq_branch {w : Word} {rs1 rs2 : BitVec 5} {funct3 : BitVec 3} {offset : BitVec 13}
    (h : decodeInstr w = .branch rs1 rs2 funct3 offset) :
    rs1 = fRs1 w ∧ rs2 = fRs2 w ∧ funct3 = fFunct3 w ∧ offset = offsetB w := by
  have hopc : fOpcode w = 0x63#7 := by rw [← encode_decodeInstr w, h, encode_branch, fOpcode_encB]
  rw [decodeInstr_eq_row hopc opcodeRow_63, decodeBranch] at h
  cases h
  exact ⟨rfl, rfl, rfl, rfl⟩

/-- Decoding gives an instruction that stands for a word: only jumps and branches could fail to, and their offsets are read even. -/
theorem wellFormed_decodeInstr (w : Word) : (decodeInstr w).wellFormed = true := by
  cases h : decodeInstr w with
  | jal rd offset =>
    obtain ⟨-, rfl⟩ := decodeInstr_eq_jal h
    rw [wellFormed_jal, offsetJ_even, Bool.not_false]
  | branch rs1 rs2 funct3 offset =>
    obtain ⟨-, -, -, rfl⟩ := decodeInstr_eq_branch h
    rw [wellFormed_branch, offsetB_even, Bool.not_false]
  | _ => rfl

/-- Settles O4: the decoded instruction is well-formed, and no bit of the word is lost in it. -/
theorem everyWordIsAWellFormedInstruction : Obligations.EveryWordIsAWellFormedInstruction := fun w =>
  ⟨wellFormed_decodeInstr w, encode_decodeInstr w⟩

/-- Settles O36: the seven fields are the operands of the R format, which takes up the whole word. -/
theorem rawFieldsReassembleTheWord : Obligations.RawFieldsReassembleTheWord :=
  encR_fields

end Sys2Proof
end

section
/-! SUPPORT. A field as a number is the word shifted down to its lowest bit and masked to its width (rules R60 to R65). -/

namespace Sys2Proof.Machine

/-- Shift and mask keep bits `lo` to `lo + n - 1` of the word, and the slice is these bits. -/
theorem setWidth_extract_eq_shift_and_mask (w : Word) (lo n : Nat) {mask : Word} (hmask : (BitVec.allOnes n).setWidth 32 = mask) :
    (w.extractLsb' lo n).setWidth 32 = (w >>> lo) &&& mask := by
  subst hmask
  ext i hi
  by_cases hin : i < n <;> simp [hin]

/-- Flipping bits outside a mask cannot be seen on it. -/
theorem agreeOn_xor {mask flip : Word} (w : Word) (h : flip &&& mask = 0#32) : AgreeOn mask (w ^^^ flip) w := by
  refine agreeOn_iff_bits.mpr fun i _ hbit => ?_
  have hflip : flip.getLsbD i = false := by simpa [hbit] using congrArg (·.getLsbD i) h
  rw [BitVec.getLsbD_xor, hflip, Bool.xor_false]

/-- Word bit 31 is not part of `f_funct7` (rule R65). -/
theorem fFunct7_flip_bit31 (w : Word) : fFunct7 (w ^^^ 0x80000000#32) = fFunct7 w :=
  fFunct7_eq_iff.mpr (agreeOn_xor w (by decide))

/-- Settles O35: each field is the slice its rule names, which shift and mask take out of the word. -/
theorem rawFieldFormulas : Obligations.RawFieldFormulas := by
  refine ⟨fun w => ⟨⟨?_, rfl⟩, ⟨?_, rfl⟩, ⟨?_, rfl⟩, ⟨?_, rfl⟩, ⟨?_, rfl⟩, ⟨?_, rfl⟩, fFunct7_flip_bit31 w⟩, by decide⟩
  · exact setWidth_extract_eq_shift_and_mask w 0 7 rfl
  · exact setWidth_extract_eq_shift_and_mask w 7 5 rfl
  · exact setWidth_extract_eq_shift_and_mask w 12 3 rfl
  · exact setWidth_extract_eq_shift_and_mask w 15 5 rfl
  · exact setWidth_extract_eq_shift_and_mask w 20 5 rfl
  · exact setWidth_extract_eq_shift_and_mask w 25 6 rfl

end Sys2Proof.Machine
end

section
/-! SUPPORT. What the rules of file 41 say of the nine immediates: a zero-extended one has the bits its rule places and none above
them, a signed one is its sign extension, the sign is word bit 31, and the branch and jump offsets are even (rules R70 to R81). -/

namespace Sys2Proof.Machine

/-! ### A field that is zero- or sign-extended to a word -/

section
variable {n : Nat} (x : BitVec n)

/-- Zero extension leaves the bits above the field clear. -/
theorem setWidth_and_eq_zero {mask : Word} (hmask : mask.setWidth n = 0#n) : x.setWidth 32 &&& mask = 0#32 := by
  ext i hi
  by_cases hin : i < n
  · have hbit : mask.getLsbD i = false := by simpa [hin] using congrArg (·.getLsbD i) hmask
    simp [hi, ← BitVec.getLsbD_eq_getElem, hbit]
  · simp [BitVec.getLsbD_of_ge x i (by omega)]

theorem extract_setWidth_self (hn : n ≤ 32) : (x.setWidth 32).extractLsb' 0 n = x := by
  rw [BitVec.extractLsb'_setWidth_of_le (by omega), BitVec.extractLsb'_eq_self]

theorem getLsbD_setWidth_of_lt {i : Nat} (hi : i < 32) : (x.setWidth 32).getLsbD i = x.getLsbD i := by
  rw [BitVec.getLsbD_setWidth, decide_eq_true hi, Bool.true_and]

/-- Sign extension keeps the sign. -/
theorem msb_signExtend_of_le (hn : n ≤ 32) : (x.signExtend 32).msb = x.msb := by
  obtain rfl | hlt := hn.eq_or_lt
  · rw [BitVec.signExtend_eq]
  · rw [BitVec.msb_signExtend, if_neg (by omega)]
    rfl

/-- Sign extension keeps the parity of a field of one bit or more. -/
theorem signExtend_even (hn : 0 < n) (h : x.getLsbD 0 = false) : (x.signExtend 32).getLsbD 0 = false := by
  rw [BitVec.getLsbD_signExtend, if_pos hn, h, Bool.and_false]

end

section
variable (w : Word)

/-! ### The sign of each format's field -/

theorem immFieldI_sign : (immFieldI w).getLsbD 11 = w.getLsbD 31 := by simp [immFieldI]
theorem immFieldS_sign : (immFieldS w).getLsbD 11 = w.getLsbD 31 := by simp [immFieldS]
theorem offsetB_sign : (offsetB w).getLsbD 12 = w.getLsbD 31 := by simp [offsetB]
theorem offsetJ_sign : (offsetJ w).getLsbD 20 = w.getLsbD 31 := by simp [offsetJ]
theorem immU_z_sign : (immU_z w).getLsbD 31 = w.getLsbD 31 := by simp [immU_z]

/-! ### The signed immediate and its zero-extended form (rule R80) -/

theorem immI_s_eq_signExtend : immI_s w = ((immI_z w).extractLsb' 0 12).signExtend 32 := by
  rw [immI_s_eq_field, immI_z_eq_field, extract_setWidth_self _ (by decide)]

theorem immS_s_eq_signExtend : immS_s w = ((immS_z w).extractLsb' 0 12).signExtend 32 := by
  rw [immS_s_eq_field, immS_z_eq_field, extract_setWidth_self _ (by decide)]

theorem immB_s_eq_signExtend : immB_s w = ((immB_z w).extractLsb' 0 13).signExtend 32 := by
  rw [immB_s_eq_field, immB_z_eq_field, extract_setWidth_self _ (by decide)]

theorem immJ_s_eq_signExtend : immJ_s w = ((immJ_z w).extractLsb' 0 21).signExtend 32 := by
  rw [immJ_s_eq_field, immJ_z_eq_field, extract_setWidth_self _ (by decide)]

end

/-- A field whose top bit is word bit 31 gives that sign to its sign extension. -/
theorem msb_signExtend_eq_of_sign {n : Nat} {x : BitVec (n + 1)} {w : Word} (hn : n + 1 ≤ 32)
    (h : x.getLsbD n = w.getLsbD 31) : (x.signExtend 32).msb = w.msb := by
  rw [msb_signExtend_of_le x hn, BitVec.msb_eq_getLsbD_last, BitVec.msb_eq_getLsbD_last]
  exact h

/-- Settles O42: a signed immediate is the sign extension of its format's field, whose top bit is word bit 31. -/
theorem immediatesShareTheSignBit : Obligations.ImmediatesShareTheSignBit := by
  intro w
  refine ⟨immI_s_eq_signExtend w, immS_s_eq_signExtend w, immB_s_eq_signExtend w, immJ_s_eq_signExtend w, ?_, ?_, ?_, ?_, ?_⟩
  · rw [immI_s_eq_field]
    exact msb_signExtend_eq_of_sign (by decide) (immFieldI_sign w)
  · rw [immS_s_eq_field]
    exact msb_signExtend_eq_of_sign (by decide) (immFieldS_sign w)
  · rw [immB_s_eq_field]
    exact msb_signExtend_eq_of_sign (by decide) (offsetB_sign w)
  · rw [immJ_s_eq_field]
    exact msb_signExtend_eq_of_sign (by decide) (offsetJ_sign w)
  · rw [BitVec.msb_eq_getLsbD_last, BitVec.msb_eq_getLsbD_last]
    exact immU_z_sign w

/-! ### Parity (rule R81) -/

section
variable (w : Word)

theorem immB_z_even : (immB_z w).getLsbD 0 = false := by
  rw [immB_z_eq_field, getLsbD_setWidth_of_lt _ (by decide), offsetB_even]

theorem immJ_z_even : (immJ_z w).getLsbD 0 = false := by
  rw [immJ_z_eq_field, getLsbD_setWidth_of_lt _ (by decide), offsetJ_even]

theorem immB_s_even : (immB_s w).getLsbD 0 = false := by
  rw [immB_s_eq_field, signExtend_even _ (by decide) (offsetB_even w)]

theorem immJ_s_even : (immJ_s w).getLsbD 0 = false := by
  rw [immJ_s_eq_field, signExtend_even _ (by decide) (offsetJ_even w)]

/-- The U immediate has no bit of the low twelve (rule R74). -/
theorem immU_z_and_low : immU_z w &&& 0xFFF#32 = 0#32 := by
  rw [immU_z, BitVec.and_assoc]
  exact BitVec.and_zero

theorem extract_immU_z_low : (immU_z w).extractLsb' 0 12 = 0#12 := by
  rw [immU_z, ← BitVec.setWidth_eq_extractLsb' (by decide), BitVec.setWidth_and]
  exact BitVec.and_zero

end

/-- Settles O43: both offsets are even in either form; bit 1 is word bit 8 or 21, and the word with just these two set has both. -/
theorem offsetAlignment : Obligations.OffsetAlignment :=
  ⟨fun w => ⟨immB_z_even w, immJ_z_even w, immB_s_even w, immJ_s_even w, extract_immU_z_low w⟩, 0x00200100#32, by decide⟩

/-! ### The zero-extended immediates as slices of the word put in place (rules R72, R75, R77) -/

section
variable (w : Word)

theorem immS_z_eq_slices :
    immS_z w = (w.extractLsb' 25 7).setWidth 32 <<< 5 ||| (w.extractLsb' 7 5).setWidth 32 := by
  rw [setWidth_extract_eq_shift_and_mask w 25 7 rfl, setWidth_extract_eq_shift_and_mask w 7 5 rfl]
  rfl

theorem immB_z_eq_slices :
    immB_z w = (w.extractLsb' 31 1).setWidth 32 <<< 12 ||| (w.extractLsb' 7 1).setWidth 32 <<< 11 |||
      (w.extractLsb' 25 6).setWidth 32 <<< 5 ||| (w.extractLsb' 8 4).setWidth 32 <<< 1 := by
  rw [setWidth_extract_eq_shift_and_mask w 31 1 rfl, setWidth_extract_eq_shift_and_mask w 7 1 rfl,
    setWidth_extract_eq_shift_and_mask w 25 6 rfl, setWidth_extract_eq_shift_and_mask w 8 4 rfl]
  rfl

theorem immJ_z_eq_slices :
    immJ_z w = (w.extractLsb' 31 1).setWidth 32 <<< 20 ||| (w.extractLsb' 12 8).setWidth 32 <<< 12 |||
      (w.extractLsb' 20 1).setWidth 32 <<< 11 ||| (w.extractLsb' 21 10).setWidth 32 <<< 1 := by
  rw [setWidth_extract_eq_shift_and_mask w 31 1 rfl, setWidth_extract_eq_shift_and_mask w 12 8 rfl,
    setWidth_extract_eq_shift_and_mask w 20 1 rfl, setWidth_extract_eq_shift_and_mask w 21 10 rfl]
  rfl

/-! ### The pieces of `f_rd` in the B immediate -/

theorem offsetB_bit11 : (offsetB w).getLsbD 11 = (fRd w).getLsbD 0 := by simp [offsetB, fRd]

theorem extract_fRd_high : (fRd w).extractLsb' 1 4 = w.extractLsb' 8 4 := by
  ext i hi
  simp [fRd, show 1 + i < 5 by omega, ← Nat.add_assoc]

end

/-- The I immediate of a word that holds just the field, in place, is the field. -/
theorem immI_z_of_place (v : BitVec 12) : immI_z (v.setWidth 32 <<< 20) = v.setWidth 32 := by
  have hfield : immFieldI (v.setWidth 32 <<< 20) = v := by
    ext i hi
    simp [immFieldI, BitVec.getLsbD_eq_getElem hi, show 20 + i < 32 by omega]
  rw [immI_z_eq_field, hfield]

/-- Settles O37: the field is `w[31:20]`, zero- or sign-extended. -/
theorem immediateI : Obligations.ImmediateI := by
  refine ⟨fun w => ⟨rfl, immI_z_eq_field w, ?_, ?_, rfl, immI_s_eq_field w⟩, fun v => ?_, by decide⟩
  · rw [immI_z_eq_field]
    exact setWidth_and_eq_zero _ rfl
  · rw [immI_z_eq_field, getLsbD_setWidth_of_lt _ (by decide), immFieldI_sign]
  · rw [immI_s, immI_z_of_place, getLsbD_setWidth_of_lt _ (by decide)]

/-- Settles O38: the field is `w[31:25]` above `w[11:7]`, zero- or sign-extended. -/
theorem immediateS : Obligations.ImmediateS := by
  refine ⟨fun w => ⟨rfl, immS_z_eq_slices w, ?_, ?_, ?_, rfl, immS_s_eq_signExtend w⟩, by decide⟩
  · obtain ⟨-, hlow⟩ := extract_immFieldS w
    rw [immS_z_eq_field, BitVec.extractLsb'_setWidth_of_le (by decide), hlow, fRd]
  · rw [immS_z_eq_field]
    exact setWidth_and_eq_zero _ rfl
  · rw [immS_z_eq_field, getLsbD_setWidth_of_lt _ (by decide), immFieldS_sign]

/-- Settles O39: the mask keeps `w[31:12]` in place. -/
theorem immediateU : Obligations.ImmediateU :=
  ⟨fun w => ⟨rfl, immU_z_eq_field w, immU_z_and_low w, immU_z_sign w⟩, by decide⟩

/-- Settles O40: the pieces of the branch offset stand in the zero-extended form as they do in the offset. -/
theorem immediateB : Obligations.ImmediateB := by
  refine ⟨fun w => ?_, by decide⟩
  obtain ⟨-, -, h25, h8⟩ := extract_offsetB w
  refine ⟨immB_z_eq_slices w, ?_, ?_, ?_, immB_z_even w, ?_, ?_, rfl, immB_s_eq_signExtend w, immB_s_even w⟩ <;>
    rw [immB_z_eq_field]
  · rw [BitVec.extractLsb'_setWidth_of_le (by decide), h25, fFunct7]
  · rw [getLsbD_setWidth_of_lt _ (by decide), offsetB_bit11]
  · rw [BitVec.extractLsb'_setWidth_of_le (by decide), h8, extract_fRd_high]
  · exact setWidth_and_eq_zero _ rfl
  · rw [getLsbD_setWidth_of_lt _ (by decide), offsetB_sign]

/-- Settles O41: the pieces of the jump offset stand in the zero-extended form as they do in the offset. -/
theorem immediateJ : Obligations.ImmediateJ := by
  refine ⟨fun w => ?_, by decide⟩
  obtain ⟨-, h12, -, -⟩ := extract_offsetJ w
  refine ⟨immJ_z_eq_slices w, ?_, immJ_z_even w, ?_, ?_, rfl, immJ_s_eq_signExtend w, immJ_s_even w⟩ <;>
    rw [immJ_z_eq_field]
  · rw [BitVec.extractLsb'_setWidth_of_le (by decide), h12]
  · exact setWidth_and_eq_zero _ rfl
  · rw [getLsbD_setWidth_of_lt _ (by decide), offsetJ_sign]

end Sys2Proof.Machine
end

section
/-! SUPPORT. The records of the upper-immediate, jump and branch opcodes (file 42, rules R90 to R94): the meaning's word has the opcode
of its class, the class's handler reads the operands back from their format, and a word of that opcode is decoded to that row. -/

namespace Sys2Proof.Machine

/-- A meaning drives what its opcode's handler makes of the fields and the immediates of the instruction's word. -/
theorem exec_eq_handlerOf {i : Instr} {w : Word} {opc : BitVec 7} {c : HandlerClass} (s : State) (he : encode i = w)
    (ho : fOpcode w = opc) (hc : handlerClass opc = c) :
    exec i s = .next { word := s.word, out := handlerOf c (extract w) (resolve w) } := by
  rw [exec_eq_decodeRecord, he, decodeRecord_of_opcode ho hc]

/-- Settles O6: the U format carries the operands, and the twenty immediate bits stand over the fields the handler passes on raw. -/
theorem luiRecord : Obligations.LuiRecord := by
  refine ⟨fun rd imm s => ?_, fun w h => decodeInstr_eq_row h opcodeRow_37, by decide⟩
  rw [exec_eq_handlerOf (c := .LUI) s (encode_lui ..) (fOpcode_encU ..) rfl]
  simp [handlerOf, handlerLui, rawIndex, sentImm]

/-- The class AUIPC drives the program-counter sentinel on `rs1`. -/
theorem decodeRecord_rs1_of_auipc {w : Word} (h : fOpcode w = 0x17#7) : (decodeRecord w).rs1 = sentPc := by
  rw [decodeRecord_of_opcode (c := .AUIPC) h rfl, handlerOf_rs1, if_pos rfl]

/-- Every other class drives a raw field or zero on `rs1`, and neither is a sentinel. -/
theorem decodeRecord_rs1_lt {w : Word} (h : fOpcode w ≠ 0x17#7) : (decodeRecord w).rs1.toNat < 32 := by
  have hc : handlerClass (fOpcode w) ≠ .AUIPC := mt (handlerClass_eq_iff _ .AUIPC).mp h
  rw [decodeRecord, handlerOf_rs1, if_neg hc]
  split
  · exact rawIndex_lt _
  · decide

/-- A word's record has a sentinel in `rs1` exactly under opcode 0x17 (rule R91, corner case (a)). -/
theorem decodeRecord_rs1_sentinel_iff (w : Word) : 32 ≤ (decodeRecord w).rs1.toNat ↔ fOpcode w = 0x17#7 := by
  constructor
  · intro hsent
    by_contra h
    exact absurd (decodeRecord_rs1_lt h) (Nat.not_lt.mpr hsent)
  · intro h
    rw [decodeRecord_rs1_of_auipc h]
    decide

/-- Settles O7: as LUI, but for `op` and the sentinel in `rs1`, which no other class's record has. -/
theorem auipcRecord : Obligations.AuipcRecord := by
  refine ⟨fun rd imm s => ?_, fun w h => decodeInstr_eq_row h opcodeRow_17, fun w => ⟨fun h => ?_, decodeRecord_rs1_of_auipc⟩,
    decodeRecord_rs1_sentinel_iff, by decide⟩
  · rw [exec_eq_handlerOf (c := .AUIPC) s (encode_auipc ..) (fOpcode_encU ..) rfl]
    simp [handlerOf, handlerAuipc, rawIndex, sentImm, sentPc]
  · refine (decodeRecord_rs1_sentinel_iff w).mp ?_
    rw [h]
    decide

/-- Settles O8: an even offset survives the J format, and the offset that is decoded has the word's pieces and is even. -/
theorem jalRecord : Obligations.JalRecord := by
  refine ⟨fun rd offset s heven => ?_, fun w h => ?_, by decide⟩
  · rw [exec_eq_handlerOf (c := .JAL) s (encode_jal ..) (fOpcode_encJ ..) rfl]
    simp [handlerOf, handlerJal, rawIndex, sentPc4, immJ_s_encJ _ _ _ heven]
  · exact ⟨offsetJ w, decodeInstr_eq_row h opcodeRow_6f, offsetJ_even w, extract_offsetJ w⟩

/-- Settles O9: the handler reads no immediate, so the word's immediate field shows only in `funct7`. -/
theorem jalrRecord : Obligations.JalrRecord := by
  refine ⟨fun rd rs1 funct3 imm s => ?_, fun w h => decodeInstr_eq_row h opcodeRow_67, by decide⟩
  rw [exec_eq_handlerOf (c := .JALR) s (encode_jalr ..) (fOpcode_encI ..) rfl]
  simp [handlerOf, handlerJalr, rawIndex, sentPc4]

/-- Settles O10: an even offset survives the B format, and the offset that is decoded has the word's pieces and is even. -/
theorem branchRecord : Obligations.BranchRecord := by
  refine ⟨fun rs1 rs2 funct3 offset s heven => ?_, fun w h => ?_, by decide⟩
  · rw [exec_eq_handlerOf (c := .BRANCH) s (encode_branch ..) (fOpcode_encB ..) rfl]
    simp [handlerOf, handlerBranch, rawIndex, immB_s_encB _ _ _ _ _ heven]
  · exact ⟨offsetB w, decodeInstr_eq_row h opcodeRow_63, offsetB_even w, extract_offsetB w⟩

end Sys2Proof.Machine
end

section
/-! SUPPORT. The records of the load and store opcodes (file 43, rules R100 and R101), by the same path as file 42's: the class's
handler on the fields and the immediate that the instruction's format carries. -/

namespace Sys2Proof.Machine

/-- Settles O11: the I format carries the displacement and every value of funct3, and the handler passes both on. -/
theorem loadRecord : Obligations.LoadRecord := by
  refine ⟨fun rd rs1 funct3 imm s => ?_, fun w h => decodeInstr_eq_row h opcodeRow_03, by decide⟩
  rw [exec_eq_handlerOf (c := .LOAD) s (encode_load ..) (fOpcode_encI ..) rfl]
  simp [handlerOf, handlerLoad, rawIndex, sentImm]

/-- A record names a store data register only when the word's opcode is STORE's (rule R101, corner case (a)). -/
theorem fOpcode_of_decodeRecord_rs3_ne_zero {w : Word} (h : (decodeRecord w).rs3 ≠ 0#6) : fOpcode w = 0x23#7 := by
  by_contra hopcode
  exact h ((storeDataIndexOnlyForStores w).trans (if_neg hopcode))

/-- Settles O12: the S format's two pieces make up the displacement both ways, and its rs2 field is driven on `rs3`, which every
other class leaves zero. -/
theorem storeRecord : Obligations.StoreRecord := by
  refine ⟨fun rs1 rs2 funct3 imm s => ?_, fun w h => ?_, fun w => fOpcode_of_decodeRecord_rs3_ne_zero, by decide⟩
  · rw [exec_eq_handlerOf (c := .STORE) s (encode_store ..) (fOpcode_encS ..) rfl]
    simp [handlerOf, handlerStore, rawIndex, sentImm]
  · exact ⟨immFieldS w, decodeInstr_eq_row h opcodeRow_23, extract_immFieldS w⟩

end Sys2Proof.Machine
end

section
/-! SUPPORT. The records of the register-immediate and register-register ALU opcodes (file 44, rules R105 and R106): the eight
register-immediate rows share one record, and a shift's immediate in it is the raw `rs2` field (decision D5). -/

namespace Sys2Proof.Machine

/-- The meanings of the eight register-immediate rows differ in what the handler makes of funct3 alone. -/
theorem exec_opImmRow (funct3 : BitVec 3) (rd rs1 : BitVec 5) (imm : BitVec 12) (s : State) :
    exec (opImmRow funct3 rd rs1 imm) s = .next
      { word := s.word, out :=
        { opcode := 0x13#7, rd := rawIndex rd, rs1 := rawIndex rs1, rs2 := sentImm, rs3 := 0#6, funct3 := funct3,
          funct7 := imm.extractLsb' 5 6,
          immd := if funct3 = 1#3 ∨ funct3 = 5#3 then imm.signExtend 32 &&& 0x1f#32 else imm.signExtend 32,
          op := if funct3 = 0#3 then .ADDI else .ALU, op2 := .NOP } } := by
  rw [exec_eq_handlerOf (c := .OP_IMM) s (encode_opImmRow ..) (fOpcode_encI ..) rfl]
  simp [handlerOf, handlerOpImm]

/-- Settles O13: the row of each funct3 drives the shared record at that funct3, and a word's own funct3 selects its row. -/
theorem opImmRecords : Obligations.OpImmRecords :=
  ⟨fun rd rs1 imm s =>
    ⟨exec_opImmRow 0#3 rd rs1 imm s, exec_opImmRow 1#3 rd rs1 imm s, exec_opImmRow 2#3 rd rs1 imm s,
      exec_opImmRow 3#3 rd rs1 imm s, exec_opImmRow 4#3 rd rs1 imm s, exec_opImmRow 5#3 rd rs1 imm s,
      exec_opImmRow 6#3 rd rs1 imm s, exec_opImmRow 7#3 rd rs1 imm s⟩,
    fun _ h => decodeInstr_eq_row h opcodeRow_13, by decide⟩

/-- Settles O14: the handler reads neither an immediate nor the R format's top bit. -/
theorem opRecord : Obligations.OpRecord := by
  refine ⟨fun rd rs1 rs2 funct3 funct7 top s => ?_, fun w h => decodeInstr_eq_row h opcodeRow_33, by decide⟩
  rw [exec_eq_handlerOf (c := .OP) s (encode_op ..) (fOpcode_encR ..) rfl]
  simp [handlerOf, handlerOp, rawIndex]

/-- The record of a shift by an immediate carries the signed I immediate, masked. -/
theorem decodeRecord_immd_of_shift {w : Word} (ho : fOpcode w = 0x13#7) (hshift : fFunct3 w = 1#3 ∨ fFunct3 w = 5#3) :
    (decodeRecord w).immd = immI_s w &&& 0x1f#32 := by
  rw [decodeRecord_of_opcode (c := .OP_IMM) ho rfl]
  exact if_pos hshift

/-- Masked before or after the extension, the I immediate keeps only the raw `rs2` field. -/
theorem immI_z_masked (w : Word) : immI_z w &&& 0x1f#32 = (fRs2 w).setWidth 32 := by
  rw [fRs2, setWidth_extract_eq_shift_and_mask w 20 5 rfl, immI_z, BitVec.and_assoc]
  rfl

/-- Settles O45: the mask keeps five bits that the zero- and the sign-extended immediate share. -/
theorem shiftImmediateIsTheRawField : Obligations.ShiftImmediateIsTheRawField := by
  refine ⟨fun w ho hshift => ?_, by decide⟩
  have himmd : (decodeRecord w).immd = (fRs2 w).setWidth 32 := by
    rw [decodeRecord_immd_of_shift ho hshift, immI_s_masked]
  exact ⟨himmd, himmd.trans (immI_z_masked w).symm⟩

end Sys2Proof.Machine
end

section
/-! SUPPORT. The records of the fence, system and unrecognised opcodes (file 45, rules R115 to R117).  Fence and system go by the same
path as file 42's; the 117 ILLEGAL rows share one record, for each row's opcode is unrecognised and selects the default handler. -/

namespace Sys2Proof.Machine

/-- Each ILLEGAL row stands for an unrecognised opcode. -/
theorem recognised_of_illegalRow {i : Instr} {opc : BitVec 7} {rest : BitVec 25} (h : illegalRow i = some (opc, rest)) :
    recognised opc = false := by
  cases i <;> cases h <;> rfl

/-- A word of an unrecognised opcode is decoded by that opcode's ILLEGAL row, which keeps the other 25 bits (rule R50, the default). -/
theorem illegalRow_decodeInstr {w : Word} (h : recognised (fOpcode w) = false) :
    illegalRow (decodeInstr w) = some (fOpcode w, aboveOpcode w) := by
  obtain ⟨row, hrow, hill⟩ := exists_ill_row h
  rw [decodeInstr_eq_row rfl hrow, ill, hill]

/-- Settles O17: an ILLEGAL row's word selects the default handler, and the words that are decoded to such a row are those of the
unrecognised opcodes. -/
theorem illegalRecords : Obligations.IllegalRecords := by
  refine ⟨fun i opc rest s hrow => ?_, fun w => ⟨illegalRow_decodeInstr, recognised_of_illegalRow⟩⟩
  have hclass := handlerClass_of_unrecognised (recognised_of_illegalRow hrow)
  rw [exec_eq_handlerOf s (encode_of_illegalRow hrow) (fOpcode_encIll ..) hclass]
  simp [handlerOf, handlerIllegal]

/-- Settles O15: the I format carries every operand, and the handler drops the word's destination field. -/
theorem miscMemRecord : Obligations.MiscMemRecord := by
  refine ⟨fun dest rs1 funct3 imm s => ?_, fun w h => decodeInstr_eq_row h opcodeRow_0f, by decide⟩
  rw [exec_eq_handlerOf (c := .MISC_MEM) s (encode_miscMem ..) (fOpcode_encI ..) rfl]
  simp [handlerOf, handlerMiscMem, rawIndex]

/-- Settles O16: the handler passes on the I format's operands as MISC_MEM's does, and drives `SPC` on `op2`. -/
theorem systemRecord : Obligations.SystemRecord := by
  refine ⟨fun dest rs1 funct3 imm s => ?_, fun w h => decodeInstr_eq_row h opcodeRow_73, by decide⟩
  rw [exec_eq_handlerOf (c := .SYSTEM) s (encode_system ..) (fOpcode_encI ..) rfl]
  simp [handlerOf, handlerSystem, rawIndex]

end Sys2Proof.Machine
end

section
/-! SUPPORT. The block raises nothing (file 60): every meaning completes with its word's record (rule R130), and the one anomaly the
block detects, an unrecognised opcode, is the value `EXP` of `op2` (rule R132), which the caller's tests read (rule R136). -/

namespace Sys2Proof.Machine

/-- Settles O19: this is what an instruction's meaning is, from any state. -/
theorem everyMeaningDrivesItsWordsRecord : Obligations.EveryMeaningDrivesItsWordsRecord :=
  exec_eq_decodeRecord

/-! ### The caller's tests on a record -/

@[simp] theorem Instruction.isIllegal_iff (r : Instruction) : r.isIllegal = true ↔ r.op2 = .EXP := beq_iff_eq

@[simp] theorem Instruction.isSystem_iff (r : Instruction) : r.isSystem = true ↔ r.op2 = .SPC := beq_iff_eq

@[simp] theorem Instruction.asksForTrap_iff (r : Instruction) : r.asksForTrap = true ↔ r.op2 = .EXP ∨ r.op2 = .SPC := by
  simp [Instruction.asksForTrap]

/-! ### The illegal marker -/

section
variable (w : Word)

/-- The marker is the class ILLEGAL's, and that class is selected exactly by the unrecognised opcodes. -/
theorem decodeRecord_op2_eq_EXP_iff : (decodeRecord w).op2 = .EXP ↔ recognised (fOpcode w) = false := by
  simp only [decodeRecord_op2, HandlerClass.op2_eq_iff, handlerClass_eq_iff, HandlerClass.Selects]

theorem decodeRecord_op2_eq_SPC_iff : (decodeRecord w).op2 = .SPC ↔ fOpcode w = 0x73#7 := by
  simp only [decodeRecord_op2, HandlerClass.op2_eq_iff, handlerClass_eq_iff, HandlerClass.Selects]

end

/-- The recognised values among the 128, in rising order. -/
theorem filter_recognised : (List.range 128).filter (fun n => recognised (BitVec.ofNat 7 n)) =
    [0x03, 0x0f, 0x13, 0x17, 0x23, 0x33, 0x37, 0x63, 0x67, 0x6f, 0x73] := by decide

/-- All but the eleven recognised values of the 128. -/
theorem countP_unrecognised : (List.range 128).countP (fun n => !recognised (BitVec.ofNat 7 n)) = 117 := by
  have htotal := List.length_eq_countP_add_countP (fun n => recognised (BitVec.ofNat 7 n)) (l := List.range 128)
  rw [List.countP_eq_length_filter, filter_recognised] at htotal
  simp only [List.length_range, List.length_cons, List.length_nil, Bool.decide_eq_false, Bool.not_eq_true] at htotal
  omega

/-- A marked record is the default handler's (rule R117). -/
theorem decodeRecord_of_marked {w : Word} (h : (decodeRecord w).op2 = .EXP) :
    decodeRecord w = handlerIllegal (extract w) (resolve w) :=
  decodeRecord_of_selects w .ILLEGAL ((decodeRecord_op2_eq_EXP_iff w).mp h)

/-- Settles O30: the class ILLEGAL alone drives `EXP`, and it is the class of the unrecognised opcodes. -/
theorem illegalMarkerIsExact : Obligations.IllegalMarkerIsExact := by
  refine ⟨fun w => ⟨decodeRecord_op2_eq_EXP_iff w, ?_, ?_, fun hmark => ?_⟩, countP_unrecognised⟩
  · rw [Instruction.isIllegal_iff, decodeRecord_op2_eq_EXP_iff]
  · rw [Instruction.asksForTrap_iff, decodeRecord_op2_eq_EXP_iff, decodeRecord_op2_eq_SPC_iff]
  · rw [decodeRecord_of_marked hmark]
    exact ⟨rfl, rfl, rfl, rfl, rfl, rfl⟩

end Sys2Proof.Machine
end

section
/-! SUPPORT. The decoder and the encoder agree on all 135 rows (rules R41, R50): an instruction is read back from its word, so it is
what runs when that word is presented (rules R10, R26). -/

namespace Sys2Proof.Laws.RoundTrip

/-- Every instruction has its row's lemma.  The rows of the unrecognised opcodes differ in their opcode alone, so one argument
serves all 117. -/
theorem statement_holds (i : Instr) : Statement i := by
  cases i with
  | lui => exact lui _ _
  | auipc => exact auipc _ _
  | jal => exact jal _ _
  | jalr => exact jalr _ _ _ _
  | branch => exact branch _ _ _ _
  | load => exact load _ _ _ _
  | store => exact store _ _ _ _
  | opImmF0 => exact opImmF0 _ _ _
  | opImmF1 => exact opImmF1 _ _ _
  | opImmF2 => exact opImmF2 _ _ _
  | opImmF3 => exact opImmF3 _ _ _
  | opImmF4 => exact opImmF4 _ _ _
  | opImmF5 => exact opImmF5 _ _ _
  | opImmF6 => exact opImmF6 _ _ _
  | opImmF7 => exact opImmF7 _ _ _
  | op => exact op _ _ _ _ _ _
  | miscMem => exact miscMem _ _ _ _
  | system => exact system _ _ _ _
  | _ rest => exact of_illegal_row rfl rfl

end Sys2Proof.Laws.RoundTrip

namespace Sys2Proof.Machine

/-- A well-formed instruction is read back from its word. -/
theorem decodeInstr_encode {i : Instr} (h : i.wellFormed = true) : decodeInstr (encode i) = i :=
  Laws.RoundTrip.statement_holds i h

/-- Settles O3, row by row: the opcode placed in the word selects the row, and the row reads back each field placed there. -/
theorem decodeOfEncodeIsTheInstruction : Obligations.DecodeOfEncodeIsTheInstruction :=
  fun _ => decodeInstr_encode

/-- Presenting a well-formed instruction's word and stepping runs that instruction. -/
theorem step_present_encode {i : Instr} (s : State) (h : i.wellFormed = true) :
    step (s.present (encode i)) = exec i { word := encode i, out := decodeRecord (encode i) } := by
  rw [step_eq_exec, State.present_word, decodeInstr_encode h, State.present_eq]

/-- Settles O1: a step is `exec` of what its word decodes to, and an instruction's word decodes to that instruction. -/
theorem stepRunsDecodedInstruction : Obligations.StepRunsDecodedInstruction := by
  refine ⟨step_eq_exec, fun i s h => step_present_encode s h, fun i s h => ?_⟩
  rw [State.withFetchWord_eq_present, step_present_encode s h]

/-- Settles O2: the format tables of rule R41 put each of these instructions into its word, and the decoder reads it back. -/
theorem specWordsDecodeToTheirInstruction : Obligations.SpecWordsDecodeToTheirInstruction := by
  intro p hp
  have ⟨hwf, hword⟩ : p.2.wellFormed = true ∧ encode p.2 = p.1 := by
    revert p
    decide
  rw [← hword, decodeInstr_encode hwf]

end Sys2Proof.Machine
end
